-- ==== Sys2Proof/Word.lean ====
section
/-! DEFINITION. The word types of the JK2460 and their plainest arithmetic. The exchange memory is organized in
16-bit words, stored little-endian (12_formats.md, R186). -/

namespace Sys2Proof

/-- One byte of exchange memory or of a link frame. -/
abbrev Byte := BitVec 8

/-- One 16-bit word: the unit of every host access (R150). -/
abbrev Word := BitVec 16

/-- A 32-bit field: two consecutive words, low half first (R186). -/
abbrev DWord := BitVec 32

/-- The low half of a 32-bit value. -/
def loWord (v : DWord) : Word := v.setWidth 16

/-- The high half of a 32-bit value. -/
def hiWord (v : DWord) : Word := (v >>> 16).setWidth 16

/-- The low byte of a word. -/
def loByte (w : Word) : Byte := w.setWidth 8

/-- The high byte of a word. -/
def hiByte (w : Word) : Byte := (w >>> 8).setWidth 8

end Sys2Proof
end

