-- ==== Sys2Proof/Config.lean ====
section
/-! DEFINITION. What the manual fixes as a number for the whole part, and the values the model leaves free. -/

namespace Sys2Proof.Config

/-- Family code 0x24 and revision 0x01 (R156, R193). -/
def ident : Word := 0x2401

/-- The base tick interval after power-on and RESETn, in µs (R131). -/
def resetTickInterval : Nat := 1000

/-- Consecutive valid frames that lock a link (R38). -/
def lockRun : Nat := 8

/-- Consecutive invalid frames that lose the lock of a link (R39). -/
def dropRun : Nat := 4

/-- The greatest number of entries of a drift window (R43). -/
def driftWindowMax : Nat := 8

/-- The least number of entries of a drift window whose mean is tested (R43). -/
def driftWindowMin : Nat := 4

/-- The sample count of a REFERENCE trigger (R53). -/
def referenceSamples : Byte := 16

/-- The bound of a corrected deviation, in ppm (R72). -/
def deviationBound : Int := 999999

/-- A raw deviation at or below this bound is a SHORT (R68). -/
def shortBound : Int := -990000

/-- What the default marker of T_ref stands for: 25 °C in sixteenths of a degree (R138, R186). -/
def defaultTRef : Int := 400

/-- The number of record slots of a journal page (R176). -/
def pageSlots : Nat := 15

/-- FREE VALUE (log 15). What the withheld count becomes when a record is withheld while the 32-bit count stands at
its maximum: R181 makes the count rise by 1 and R177 makes it 32 bits wide, and no rule says what it then holds. The
argument is the record sequence given to the withheld record. No body: nothing can be proved of the value. -/
opaque withheldPastMaximum : DWord → DWord

/-- FREE VALUE (log 32). What the lines INDEX and DROP0..23 have done by the time of a step with no command waiting, in the
bits of `Sensor.watch`: no row of the table is a level of these lines or the passing of time (R121, R122). The argument is
the number of such steps before. No body: nothing can be proved of the value. -/
opaque lineActivity : Nat → BitVec 26

end Sys2Proof.Config
end

