-- ==== Sys2Proof/Syntax.lean ====
section
/-! DEFINITION. The commands of the JK2460: one constructor of `Instr` for each row of spec/opcode_table.json, in the
table's order, with the row's operands. A line level that the part samples at an event is an operand of that event
(log 3). -/

namespace Sys2Proof

/-- The fields of a 16-byte head frame (R187). In a STATUS frame `sPos` is the head serial and `sNeg` the count of
triggers rejected since the previous STATUS frame. -/
structure HeadFrame where
  tag   : Byte
  flags : Byte
  n     : Byte
  sPos  : DWord
  sNeg  : DWord
  t     : Word
deriving DecidableEq, Repr

/-- The two edges inside a carrier period of HOLD (R107): its start, where the valve is switched on, and the end of
its on-part, where it is switched off. -/
inductive CarrierEdge
  | periodStart
  | onPartEnd
deriving DecidableEq, Repr

/-- The 32-bit header fields to which the capture of R155 applies. -/
inductive HeaderField
  | lotIndexCount
  | nextRecordSequence
  | withheldCount
  | firstWithheldSequence
deriving DecidableEq, Repr

/-- The commands, one per row of the table. -/
inductive Instr
  | powerOn (image : List Host.Cell)
  | reset
  | initializationEnd (carriers : BitVec 6)
  | indexEvent (loadSense clearSense : Bool)
  | dropEdge (gate : Fin 24)
  | carrierAppears (link : Fin 6)
  | carrierLost (link : Fin 6)
  | invalidFrame (link : Fin 6)
  | statusFrame (link : Fin 6) (frame : HeadFrame)
  | readingFrame (link : Fin 6) (frame : HeadFrame)
  | referenceFrame (link : Fin 6) (frame : HeadFrame)
  | silenceTimerExpiry (link : Fin 6)
  | contactDelayExpiry (link : Fin 6)
  | fireDelayExpiry (output : Fin 25)
  | hitTimeExpiry (output : Fin 25)
  | holdCarrierPeriod (output : Fin 25) (edge : CarrierEdge)
  | holdTimeExpiry (output : Fin 25)
  | testFireObserveEnd (gate : Fin 24)
  | baseTick (guard calProtect : Bool) (sense : BitVec 5)
  | guardChange (closed : Bool)
  | levelSwitchChange (switch : Fin 25) (full : Bool)
  | scanVisit (clearSense : Bool)
  | lotStart (cell : Fin 16) (bank : Word) (lotId firstSerial : DWord)
  | lotEnd (cell : Fin 16)
  | lotEndCompletion
  | lotAbort (cell : Fin 16)
  | resume (cell : Fin 16) (clearSense : Bool)
  | bankSwitch (cell : Fin 16) (bank mode : Word)
  | bankSwitchCompletion
  | binSwapBegin (cell : Fin 16) (gate : Word)
  | binSwapBeginCompletion (gate : Fin 24)
  | binSwapEnd (cell : Fin 16) (gate : Word)
  | gateMode (cell : Fin 16) (gate mode : Word)
  | testFire (cell : Fin 16) (gate : Word)
  | headSelect (cell : Fin 16) (station side : Word)
  | headSelectCompletion (station : Fin 3)
  | headRequalify (cell : Fin 16) (head : Word)
  | journalFlush (cell : Fin 16)
  | tallySnapshot (cell : Fin 16)
  | countersClear (cell : Fin 16)
  | unknownCommand (cell : Fin 16) (kind : Word)
  | nudge (value : Word)
  | eventsWrite (value : Word)
  | eventMaskWrite (value : Word)
  | headerCaptureRead (field : HeaderField)
  | hostWrite (address : BitVec 15) (value : Word)
  | headerHighWordRead (field : HeaderField)
  | resetnRelease
deriving DecidableEq, Repr

end Sys2Proof
end

