-- ==== Sys2Proof/Decode.lean ====
section
/-! DEFINITION. The table gives none of its rows bits: no word spells a command, so `decodeTableWord` answers none. What
the manual does give bit by bit are the frames of the links (R187) and the addresses of the host port (R151); this file
reads the row from those. -/

namespace Sys2Proof

/-- No row of spec/opcode_table.json has bits (fields: none), so no word spells a command. -/
def decodeTableWord (_nbits _w : Nat) : Option Instr := none

/-- The 16-bit word at byte offset `i` of a byte sequence, little-endian; bytes past the end read 0 (R186). -/
def wordAt (bytes : List Byte) (i : Nat) : Word := bytes.getD (i + 1) 0 ++ bytes.getD i 0

/-- The 32-bit field at byte offset `i`, low half first (R186). -/
def dwordAt (bytes : List Byte) (i : Nat) : DWord := wordAt bytes (i + 2) ++ wordAt bytes i

/-- The check word over the first `n` words of a frame: their bitwise XOR (R187). -/
def checkWord (bytes : List Byte) : Nat → Word
  | 0 => 0
  | n + 1 => checkWord bytes n ^^^ wordAt bytes (2 * n)

/-- The fields of a 16-byte head frame, by the offsets of R187. -/
def headFrameOf (bytes : List Byte) : HeadFrame where
  tag := bytes.getD 1 0
  flags := bytes.getD 2 0
  n := bytes.getD 3 0
  sPos := dwordAt bytes 4
  sNeg := dwordAt bytes 8
  t := wordAt bytes 12

/-- The row that the receipt of a whole 16-byte head frame is: STATUS, READING or REFERENCE if the check word equals
the XOR of the seven words before it and the kind is 1, 2 or 3, and INVALID_FRAME otherwise (R38, R187). A run of bytes of
another length, of which the manual says nothing, is taken as an INVALID_FRAME too (log 34). -/
def frameCommand (link : Fin 6) (bytes : List Byte) : Instr :=
  if bytes.length = 16 ∧ checkWord bytes 7 = wordAt bytes 14 then
    if bytes.getD 0 0 = 1 then .statusFrame link (headFrameOf bytes)
    else if bytes.getD 0 0 = 2 then .readingFrame link (headFrameOf bytes)
    else if bytes.getD 0 0 = 3 then .referenceFrame link (headFrameOf bytes)
    else .invalidFrame link
  else .invalidFrame link

/-- The row that a host write is: the registers EVENTS, EVENT_MASK and NUDGE have rows of their own, every other word
is HOST_WRITE (R151, R157, R158). -/
def hostWriteCommand (address : BitVec 15) (value : Word) : Instr :=
  if address.toNat = 0x6002 then .eventsWrite value
  else if address.toNat = 0x6003 then .eventMaskWrite value
  else if address.toNat = 0x6004 then .nudge value
  else .hostWrite address value

end Sys2Proof
end

