-- ==== Sys2Proof/Machine/State.lean ====
section
/-! DEFINITION. Everything the manual gives the JK2460 to hold, as plain data, and its value at reset. The header, the
live bin table, RUNSTAT, the lock map, the reference counts, pending and the output lines are functions of this state
(Machine/Views.lean, log 18). -/

namespace Sys2Proof.Machine

/-- Where the part stands between a reset and normal operation (R134, R159). -/
inductive Phase
  | held          -- a reset is taken and RESETn is still low
  | initializing  -- initialization runs
  | operating     -- init-in-progress is clear: events are taken
deriving DecidableEq, Repr

/-- The lot states (R23). -/
inductive LotState
  | idle | running | draining | halted
deriving DecidableEq, Repr

/-- The causes of a halt (R28). -/
inductive HaltCause
  | primaryFailed | jam | guardOpen | sweepFull
deriving DecidableEq, Repr

/-- The state a halted lot returns to (R23). -/
inductive ReturnState
  | running | draining
deriving DecidableEq, Repr

/-- The recipe banks (R138). -/
inductive Bank
  | bankA | bankB
deriving DecidableEq, Repr

/-- The sides of a station relay (R45). -/
inductive Side
  | sideA | sideB
deriving DecidableEq, Repr

/-- The final classifications of a pocket (section 1.2, R186). -/
inductive PartOutcome
  | graded | ungraded | openCircuit | shortCircuit | contactFail | noReading | binUnavailable | ejectMissed | ejectUnconfirmed
  | skipped | foreign | aborted
deriving DecidableEq, Repr

/-- The failures of a measurement (R62, R63). -/
inductive Failure
  | contactFail | noReading
deriving DecidableEq, Repr

/-- The states of a pocket record (section 1.2). -/
inductive PocketState
  | empty | loaded | measuring | retestWait | graded | fired | carry
deriving DecidableEq, Repr

/-- One entry of a record's readings (R73, R74). -/
structure Reading where
  station     : Fin 3
  side        : Side
  deviation   : Int
  tempHeld    : Bool
  tempDefault : Bool
deriving DecidableEq, Repr

/-- A pocket record (section 1.2, R5); its pocket number is its index in the track. -/
structure Pocket where
  state         : PocketState
  serial        : Option DWord
  bank          : Option Bank
  readings      : List Reading
  attempts      : Nat
  lastFailure   : Option Failure
  deviation     : Option Int
  outcome       : Option PartOutcome
  grade         : Option (Fin 32)
  target        : Option (Fin 24)
  redirected    : Bool
  retestSkipped : Bool
  retestLate    : Bool
deriving DecidableEq, Repr

/-- A record set to EMPTY (R4). -/
def Pocket.empty : Pocket where
  state := .empty
  serial := none
  bank := none
  readings := []
  attempts := 0
  lastFailure := none
  deviation := none
  outcome := none
  grade := none
  target := none
  redirected := false
  retestSkipped := false
  retestLate := false

/-- A pending BANK_SWITCH (R146): banks before and after, references at take, and the cell it holds. -/
structure PendingSwitch where
  old        : Bank
  new        : Bank
  immediate  : Bool
  references : Nat
  cell       : Fin 16
deriving DecidableEq, Repr

/-- The Lot Controller (R23, R35). The counters are numbered as in R190. -/
structure Lot where
  state      : LotState
  cause      : Option HaltCause
  ret        : Option ReturnState
  lotId      : DWord
  nextSerial : DWord
  active     : Option Bank
  load       : Option Bank
  counters   : Vector DWord 48
  endCell    : Option (Fin 16)
  switch     : Option PendingSwitch
deriving DecidableEq, Repr

/-- The link states (section 3.1). -/
inductive LinkState
  | down | acquire | locked
deriving DecidableEq, Repr

/-- The kinds of trigger (R53). -/
inductive TriggerKind
  | part | reference
deriving DecidableEq, Repr

/-- What a trigger measures: a PART trigger names its pocket (R53). -/
inductive Purpose
  | part (pocket : Fin 96)
  | reference
deriving DecidableEq, Repr

/-- Whether a trigger has been sent (R53): waiting with its delay in sixteenths of a µs (R54, R130), or sent with
the range and the sample count that the frame carried. -/
inductive Sending
  | waiting (delay : Nat)
  | sent (range samples : Byte)
deriving DecidableEq, Repr

/-- The content of a trigger slot (R53). -/
structure Trigger where
  purpose : Purpose
  tag     : Byte
  sending : Sending
deriving DecidableEq, Repr

/-- The late mark (R37): kind and tag of the last trigger ended as late. -/
structure LateMark where
  kind : TriggerKind
  tag  : Byte
deriving DecidableEq, Repr

/-- A Gauge Link Port (R37). `tx` holds the bytes of the last trigger frame sent (log 19). -/
structure Port where
  link        : LinkState
  goodRun     : Nat
  badRun      : Nat
  silence     : Bool
  serial      : Option DWord
  slot        : Option Trigger
  late        : Option LateMark
  frameErrors : Byte
  rejects     : Byte
  stale       : Word
  lateCount   : Word
  tx          : List Byte
deriving DecidableEq, Repr

/-- The head states (R42). -/
inductive HeadState
  | offline | unqualified | standby | active | drifted
deriving DecidableEq, Repr

/-- What the Head Selector holds for a head: state, drift window (R43), last valid temperature (R69). -/
structure Head where
  state       : HeadState
  window      : List Int
  temperature : Option Int
deriving DecidableEq, Repr

/-- The station states (R45). -/
inductive StationState
  | disabled | ready | settling | failed
deriving DecidableEq, Repr

/-- What the Head Selector holds for a station (R45); `select` is the cell of a HEAD_SELECT waiting on it (R51). -/
structure Station where
  state   : StationState
  side    : Side
  pending : Option Side
  select  : Option (Fin 16)
deriving DecidableEq, Repr

/-- The phases of a fire (R107). -/
inductive FirePhase
  | delay | hit | hold
deriving DecidableEq, Repr

/-- A run of a valve profile (R107, R113): its phase, whether it started under forcing, and in HOLD the number of the
carrier period, whether its on-part is running, and the on-part's length in sixteenths of a µs. -/
structure Run where
  phase   : FirePhase
  heldOff : Bool
  on      : Bool
  period  : Nat
  onPart  : Nat
deriving DecidableEq, Repr

/-- A valve profile (R106): times and carrier period in µs, duty in sixteenths. -/
structure Profile where
  delay   : Nat
  hit     : Nat
  hold    : Nat
  duty    : Nat
  carrier : Nat
deriving DecidableEq, Repr

/-- A confirmation window (R96): its pocket and the K at which its fire started. -/
structure Window where
  pocket : Fin 96
  k      : DWord
deriving DecidableEq, Repr

/-- A gate's fire in progress (R96). -/
structure GateFire where
  pocket : Fin 96
  k      : DWord
  run    : Run
deriving DecidableEq, Repr

/-- The phases of a test fire (R117, R118). -/
inductive TestPhase
  | profile (run : Run)
  | observe
deriving DecidableEq, Repr

/-- A test fire (R117): its phase, its edges seen, its cell, and the profile read at its take. -/
structure TestFire where
  phase   : TestPhase
  edges   : Byte
  cell    : Fin 16
  profile : Profile
deriving DecidableEq, Repr

/-- The gate modes (R97). -/
inductive GateMode
  | sort | disabled
deriving DecidableEq, Repr

/-- What the Gate Controller holds for a gate (R96); `swap` is the cell of the BIN_SWAP_BEGIN in progress. -/
structure Gate where
  mode      : GateMode
  offline   : Bool
  tally     : Word
  capacity  : Word
  windows   : List Window
  full      : Bool
  levelFull : Bool
  fire      : Option GateFire
  swap      : Option (Fin 16)
  test      : Option TestFire
  stray     : Word
deriving DecidableEq, Repr

/-- The qualification of INDEX (R121): not yet seen low since a reset, armed by a low level of 100 µs, a high period
being timed, or a high period registered. Only an armed line starts a high period. How far a wait has run is left out
(log 3). -/
inductive IndexLine
  | unseen | armed | timing | registered
deriving DecidableEq, Repr

/-- The Sensor Scanner (R121, R122, R124, R126, R128, R129); `drops` says which DROP lines are armed. -/
structure Sensor where
  index       : IndexLine
  drops       : Vector Bool 24
  guardClosed : Bool
  dwell       : Bool
  protect     : Bool
  driven      : Option (Fin 5)
  reported    : Vector Bool 25
  changes     : Vector (Fin 3) 25
deriving DecidableEq, Repr

/-- The base tick interval and the interval under which the tick now due was set, in µs (R131). -/
structure Timebase where
  interval : Nat
  due      : Nat
deriving DecidableEq, Repr

/-- A scan in progress: the cell it visits next and the visits it has left (R166). -/
structure Scan where
  next : Fin 16
  left : Nat
deriving DecidableEq, Repr

/-- The Slate Scanner (R163, R165). -/
structure Slate where
  taken   : Vector Bool 16
  cursor  : Fin 16
  request : Bool
  scan    : Option Scan
deriving DecidableEq, Repr

/-- The Journal Writer (R177). -/
structure Journal where
  page          : Fin 80
  isOpen        : Bool
  nextRecord    : DWord
  nextPage      : DWord
  stalled       : Bool
  withheld      : DWord
  firstWithheld : DWord
deriving DecidableEq, Repr

/-- The Exchange Port's own state (R153, R155, R157, R158); `data` is D0..D15 as the last modelled read left them. -/
structure ExchangePort where
  latchFull    : Bool
  firstRefused : Word
  refused      : Word
  events       : BitVec 7
  mask         : BitVec 7
  hold         : Option (HeaderField × Word)
  data         : Word
deriving DecidableEq, Repr

/-- The geometry of a lot (R1): an unfitted station or gate has no position. -/
structure Geometry where
  p        : Nat
  stations : Vector (Option Nat) 3
  gates    : Vector (Option Nat) 24
  w        : Nat
  c        : Nat
deriving DecidableEq, Repr

/-- A head entry of the machine table (R135). -/
structure HeadEntry where
  fitted     : Bool
  range      : Nat
  serial     : DWord
  gains      : Vector Nat 8
  nominal    : Nat
  driftLimit : Nat
deriving DecidableEq, Repr

/-- The copies of the machine table taken at an accepted LOT_START and held until the next one (R137). -/
structure MachineCopy where
  geometry     : Geometry
  contactDelay : Nat
  relaySettle  : Nat
  profiles     : Vector Profile 25
  heads        : Vector HeadEntry 6
deriving DecidableEq, Repr

/-- The stored regions of the exchange memory (R151), as (byte address, byte) pairs: addresses strictly rising, no
byte 0. An unlisted byte reads 0 (log 7). -/
abbrev Memory := List Host.Cell

/-- The part itself: everything the manual gives the JK2460 to hold. -/
structure Device where
  phase       : Phase
  phi         : Nat
  k           : DWord
  idleIndexes : Word
  track       : Vector Pocket 96
  lot         : Lot
  ports       : Vector Port 6
  heads       : Vector Head 6
  stations    : Vector Station 3
  gates       : Vector Gate 24
  sweep       : Option Run
  sensor      : Sensor
  timebase    : Timebase
  slate       : Slate
  journal     : Journal
  port        : ExchangePort
  held        : Option MachineCopy
  mem         : Memory
deriving DecidableEq, Repr

/-- The machine: the queue of waiting commands, first in first out, and the part. `idles` is the model's own: the number of
steps taken with no command waiting, to which the free value of log 32 is applied. -/
structure State where
  pending : List Instr
  idles   : Nat
  dev     : Device
deriving DecidableEq, Repr

/-- The JK2460 stops with no fault: an ill-timed event is without effect (R22), a wrong command is refused with a
result code (R167), a locked or read-only word refuses its write and the part goes on (R153). -/
inductive Fault
deriving DecidableEq, Repr

/-- Reasons for which the model gives a command no meaning. -/
inductive Refusal
  /-- Raised by an arm of exec whose row has no meaning yet; no arm does. Safe: the machine stops by name. -/
  | notModelled (mnemonic : String)
deriving DecidableEq, Repr

/-- The Lot Controller after power-on and RESETn (R23). -/
def Lot.reset : Lot where
  state := .idle
  cause := none
  ret := none
  lotId := 0
  nextSerial := 0
  active := none
  load := none
  counters := Vector.replicate 48 0
  endCell := none
  switch := none

/-- A Gauge Link Port after power-on and RESETn (R37). -/
def Port.reset : Port where
  link := .down
  goodRun := 0
  badRun := 0
  silence := false
  serial := none
  slot := none
  late := none
  frameErrors := 0
  rejects := 0
  stale := 0
  lateCount := 0
  tx := []

/-- A head after power-on and RESETn (R42, R43, R69). -/
def Head.reset : Head where
  state := .offline
  window := []
  temperature := none

/-- A station after power-on and RESETn (R45). -/
def Station.reset : Station where
  state := .disabled
  side := .sideA
  pending := none
  select := none

/-- A gate after power-on and RESETn (R96). -/
def Gate.reset : Gate where
  mode := .sort
  offline := false
  tally := 0
  capacity := 0
  windows := []
  full := false
  levelFull := false
  fire := none
  swap := none
  test := none
  stray := 0

/-- The Sensor Scanner after power-on and RESETn (R121, R122, R124, R126, R128, R129). -/
def Sensor.reset : Sensor where
  index := .unseen
  drops := Vector.replicate 24 false
  guardClosed := false
  dwell := false
  protect := true
  driven := none
  reported := Vector.replicate 25 false
  changes := Vector.replicate 25 0

/-- The Timebase after power-on and RESETn (R131). -/
def Timebase.reset : Timebase where
  interval := Config.resetTickInterval
  due := Config.resetTickInterval

/-- The Slate Scanner after power-on and RESETn (R163). -/
def Slate.reset : Slate where
  taken := Vector.replicate 16 false
  cursor := 15
  request := false
  scan := none

/-- The Journal Writer after power-on and RESETn (R177). -/
def Journal.reset : Journal where
  page := 0
  isOpen := false
  nextRecord := 0
  nextPage := 0
  stalled := false
  withheld := 0
  firstWithheld := 0

/-- The Exchange Port after power-on and RESETn (R153, R155, R157, R158). -/
def ExchangePort.reset : ExchangePort where
  latchFull := false
  firstRefused := 0
  refused := 0
  events := 0
  mask := 0
  hold := none
  data := 0

/-- The part with every block at its reset value, in the given phase and with the given exchange memory. -/
def Device.atReset (phase : Phase) (mem : Memory) : Device where
  phase := phase
  phi := 0
  k := 0
  idleIndexes := 0
  track := Vector.replicate 96 Pocket.empty
  lot := Lot.reset
  ports := Vector.replicate 6 Port.reset
  heads := Vector.replicate 6 Head.reset
  stations := Vector.replicate 3 Station.reset
  gates := Vector.replicate 24 Gate.reset
  sweep := none
  sensor := Sensor.reset
  timebase := Timebase.reset
  slate := Slate.reset
  journal := Journal.reset
  port := ExchangePort.reset
  held := none
  mem := mem

/-- The machine right after a reset has been taken and has ended: initialization runs, so that INITIALIZATION_END is
the first command that acts (log 1). The queue is empty, the exchange memory lists nothing (log 7), and no step has been
idle (log 32). -/
def State.reset : State where
  pending := []
  idles := 0
  dev := Device.atReset .initializing []

end Sys2Proof.Machine
end

