-- ==== Sys2Proof/Machine/Ops.lean ====
section
/-! DEFINITION. The operations every block shares: exchange memory, saturating counters, the rounded division, and the
update of one entry of a table of the part. -/

namespace Sys2Proof.Machine

/-! ## Exchange memory (R150, R151, R186) -/

/-- The byte at an address; an unlisted byte reads 0 (log 7). -/
def readByte : Memory → Nat → Byte
  | [], _ => 0
  | c :: rest, a => if c.1 = a then c.2 else readByte rest a

/-- Writes one byte and keeps the canonical form: a byte 0 is not listed. -/
def writeByte : Memory → Nat → Byte → Memory
  | [], a, b => if b = 0 then [] else [(a, b)]
  | c :: rest, a, b =>
    if a < c.1 then (if b = 0 then c :: rest else (a, b) :: c :: rest)
    else if a = c.1 then (if b = 0 then rest else (a, b) :: rest)
    else c :: writeByte rest a b

/-- The canonical form: addresses strictly rising and no byte 0. -/
def Memory.wf : Memory → Bool
  | [] => true
  | [c] => decide (c.2 ≠ 0)
  | c :: d :: rest => decide (c.1 < d.1) && decide (c.2 ≠ 0) && Memory.wf (d :: rest)

/-- The word at a byte address, little-endian (R186). -/
def readWord (m : Memory) (a : Nat) : Word := readByte m (a + 1) ++ readByte m a

/-- The 32-bit field at a byte address, low half first (R186). -/
def readDWord (m : Memory) (a : Nat) : DWord := readWord m (a + 2) ++ readWord m a

/-- Writes a word, little-endian (R186). -/
def writeWord (m : Memory) (a : Nat) (w : Word) : Memory :=
  writeByte (writeByte m a (loByte w)) (a + 1) (hiByte w)

/-- Writes a 32-bit field, low half first (R186). -/
def writeDWord (m : Memory) (a : Nat) (v : DWord) : Memory :=
  writeWord (writeWord m a (loWord v)) (a + 2) (hiWord v)

/-- Writes a run of bytes from an address upward. -/
def writeBytes : Memory → Nat → List Byte → Memory
  | m, _, [] => m
  | m, a, b :: rest => writeBytes (writeByte m a b) (a + 1) rest

/-- Writes 0 into every byte of `lo ≤ a < hi`. -/
def clearRange (m : Memory) (lo hi : Nat) : Memory := m.filter (fun c => decide (c.1 < lo) || decide (hi ≤ c.1))

/-- The bytes of a word, low byte first. -/
def wordBytes (w : Word) : List Byte := [loByte w, hiByte w]

/-- The bytes of a 32-bit value, low byte first. -/
def dwordBytes (v : DWord) : List Byte := wordBytes (loWord v) ++ wordBytes (hiWord v)

/-- The bytes of a 24-bit signed deviation, low byte first (R186, R189). -/
def deviationBytes (v : Int) : List Byte :=
  let x : BitVec 24 := BitVec.ofInt 24 v
  [x.setWidth 8, (x >>> 8).setWidth 8, (x >>> 16).setWidth 8]

/-! ## Arithmetic -/

/-- One more, holding the maximum (00_scope.md, "Counters"). -/
def satInc {n : Nat} (x : BitVec n) : BitVec n := if x = BitVec.allOnes n then x else x + 1

/-- `count` more, holding the maximum (R40). -/
def satAdd {n : Nat} (x : BitVec n) (count : Nat) : BitVec n := BitVec.ofNat n (min (2 ^ n - 1) (x.toNat + count))

/-- Quotient rounded half away from zero (R60); the divisor of every division of the manual is positive. -/
def roundDiv (num : Int) (den : Nat) : Int :=
  let q : Nat := (2 * num.natAbs + den) / (2 * den)
  if num < 0 then -(q : Int) else q

/-- The value held within −999,999..+999,999 (R72). -/
def clampDeviation (v : Int) : Int := max (-Config.deviationBound) (min Config.deviationBound v)

/-! ## Tables of the part -/

/-- Every entry of a table changed by one function. -/
def mapVec {α β : Type} {n : Nat} (f : α → β) (v : Vector α n) : Vector β n := ⟨⟨v.toList.map f⟩, by simp⟩

/-- A table given by a function of the index. -/
def tableOf {α : Type} {n : Nat} (f : Fin n → α) : Vector α n := ⟨⟨(List.finRange n).map f⟩, by simp⟩

/-- A step done for every index in ascending order, each on the state the one before it left. -/
def forEach {σ : Type} (n : Nat) (f : Fin n → σ → σ) (s : σ) : σ := (List.finRange n).foldl (fun s i => f i s) s

/-- Changes one pocket record. -/
def Device.updPocket (d : Device) (p : Fin 96) (f : Pocket → Pocket) : Device :=
  { d with track := d.track.set p (f d.track[p]) }

/-- Changes one Gauge Link Port. -/
def Device.updPort (d : Device) (h : Fin 6) (f : Port → Port) : Device :=
  { d with ports := d.ports.set h (f d.ports[h]) }

/-- Changes one head. -/
def Device.updHead (d : Device) (h : Fin 6) (f : Head → Head) : Device :=
  { d with heads := d.heads.set h (f d.heads[h]) }

/-- Changes one station. -/
def Device.updStation (d : Device) (st : Fin 3) (f : Station → Station) : Device :=
  { d with stations := d.stations.set st (f d.stations[st]) }

/-- Changes one gate. -/
def Device.updGate (d : Device) (j : Fin 24) (f : Gate → Gate) : Device :=
  { d with gates := d.gates.set j (f d.gates[j]) }

/-- Changes the Lot Controller. -/
def Device.updLot (d : Device) (f : Lot → Lot) : Device := { d with lot := f d.lot }

/-! ## The edge lines (R121, R122) -/

/-- INDEX over a stretch of time (R121): a low level of 100 µs arms it from any state, ending a high period that is being
timed; a rise of the armed line starts one. -/
def IndexLine.watch (low rise : Bool) (x : IndexLine) : IndexLine :=
  let y := if low then .armed else x
  if rise && decide (y = .armed) then .timing else y

/-- The edge lines over a stretch of time: bit j of `seen` says that DROPj has held low for 20 µs, bit 24 that INDEX has
held low for 100 µs, bit 25 that INDEX has risen since. A line that is armed stays so until it gives its edge (R122). -/
def Sensor.watch (seen : BitVec 26) (x : Sensor) : Sensor :=
  { x with
    index := x.index.watch (seen.getLsbD 24) (seen.getLsbD 25)
    drops := tableOf (fun j => x.drops[j] || seen.getLsbD j.val) }

/-- Time passes in which no command comes: in operation the edge lines are watched (R134). -/
def Device.watchLines (d : Device) (seen : BitVec 26) : Device :=
  { d with sensor := if d.phase = .operating then d.sensor.watch seen else d.sensor }

/-- The registration of an index event ends the timing of its high period; the line is not armed (R121). -/
def Device.registerIndex (d : Device) : Device := { d with sensor := { d.sensor with index := .registered } }

/-- The registration of a drop edge leaves its line not armed (R122). -/
def Device.registerDrop (d : Device) (j : Fin 24) : Device :=
  { d with sensor := { d.sensor with drops := d.sensor.drops.set j false } }

/-! ## Heads, stations and sides -/

/-- The head of a station's side: 0A, 0B, 1A, 1B, 2A, 2B in turn (R37). -/
def headOf (st : Fin 3) : Side → Fin 6
  | .sideA => ⟨2 * st.val, by omega⟩
  | .sideB => ⟨2 * st.val + 1, by omega⟩

/-- The station of a head. -/
def stationOf (h : Fin 6) : Fin 3 := ⟨h.val / 2, by omega⟩

/-- The side of a head. -/
def sideOf (h : Fin 6) : Side := if h.val % 2 = 0 then .sideA else .sideB

/-- The other side of a relay. -/
def Side.other : Side → Side
  | .sideA => .sideB
  | .sideB => .sideA

/-! ## Turret geometry -/

/-- The geometry held for the lot; the empty one where no copy is held, which no open lot meets (log 16). -/
def Device.geometry (d : Device) : Geometry :=
  match d.held with
  | some c => c.geometry
  | none => { p := 0, stations := Vector.replicate 3 none, gates := Vector.replicate 24 none, w := 0, c := 0 }

/-- The pocket standing at position `x` at phase `phi`: (x − Φ) mod P (R2). -/
def pocketAt (p phi x : Nat) : Fin 96 := Fin.ofNat 96 ((x + p - phi % p) % p)

/-- The position of a pocket at phase `phi`: (pocket + Φ) mod P (R2). -/
def positionOf (p phi : Nat) (pocket : Fin 96) : Nat := (pocket.val + phi) % p

/-- S_last, the greatest fitted station position (section 1.1). -/
def Geometry.sLast (g : Geometry) : Nat := g.stations.toList.foldl (fun m x => max m (x.getD 0)) 0

/-- The low 8 bits of K: the tag of a trigger (R53). -/
def tagOf (k : DWord) : Byte := k.setWidth 8

/-! ## How a command acts -/

/-- A command changes the part and leaves the queue; the part never stops (see `Fault`). -/
def State.act (s : State) (f : Device → Device) : Host.Outcome State Fault Refusal := .next { s with dev := f s.dev }

/-- While init-in-progress is set the part takes no event and ignores every host write (R134, R159). -/
def Device.whenOperating (d : Device) (f : Device → Device) : Device := if d.phase = .operating then f d else d

/-- A command that is an event of the part: taken in operation, and only then. -/
def State.event (s : State) (f : Device → Device) : Host.Outcome State Fault Refusal :=
  s.act (fun d => d.whenOperating f)

end Sys2Proof.Machine
end

