-- ==== Sys2Proof/Machine/Operands.lean ====
section
/-! DEFINITION. The codes of R186 and the fields of the regions the part reads: command cells (R188), the machine table
and the recipe banks (R192). -/

namespace Sys2Proof.Machine

/-! ## Codes (R186) -/

def LotState.code : LotState → Nat
  | .idle => 0 | .running => 1 | .draining => 2 | .halted => 3

def ReturnState.lotState : ReturnState → LotState
  | .running => .running | .draining => .draining

def Bank.code : Bank → Nat
  | .bankA => 1 | .bankB => 2

/-- A bank or none, as the registers show it. -/
def bankCode : Option Bank → Nat
  | none => 0 | some b => b.code

def HaltCause.code : HaltCause → Nat
  | .primaryFailed => 1 | .jam => 2 | .guardOpen => 3 | .sweepFull => 4

/-- A halt cause or none. -/
def causeCode : Option HaltCause → Nat
  | none => 0 | some c => c.code

def HeadState.code : HeadState → Nat
  | .offline => 0 | .unqualified => 1 | .standby => 2 | .active => 3 | .drifted => 4

def StationState.code : StationState → Nat
  | .disabled => 0 | .ready => 1 | .settling => 2 | .failed => 3

def LinkState.code : LinkState → Nat
  | .down => 0 | .acquire => 1 | .locked => 2

def Side.code : Side → Nat
  | .sideA => 0 | .sideB => 1

def PartOutcome.code : PartOutcome → Fin 12
  | .graded => 0 | .ungraded => 1 | .openCircuit => 2 | .shortCircuit => 3 | .contactFail => 4 | .noReading => 5
  | .binUnavailable => 6 | .ejectMissed => 7 | .ejectUnconfirmed => 8 | .skipped => 9 | .foreign => 10 | .aborted => 11

def GateMode.code : GateMode → Nat
  | .sort => 1 | .disabled => 2

/-- The outcome that a failure is (R88). -/
def Failure.outcome : Failure → PartOutcome
  | .contactFail => .contactFail | .noReading => .noReading

/-- The bank a parameter names. -/
def bankOfCode (w : Word) : Option Bank := if w.toNat = 1 then some .bankA else if w.toNat = 2 then some .bankB else none

/-- The side a parameter names. -/
def sideOfCode (w : Word) : Option Side := if w.toNat = 0 then some .sideA else if w.toNat = 1 then some .sideB else none

/-- The gate mode a parameter names. -/
def modeOfCode (w : Word) : Option GateMode :=
  if w.toNat = 1 then some .sort else if w.toNat = 2 then some .disabled else none

/-- Whether a BANK_SWITCH mode is IMMEDIATE; none where it names neither mode (R188). -/
def switchModeOfCode (w : Word) : Option Bool :=
  if w.toNat = 1 then some false else if w.toNat = 2 then some true else none

/-- The index that a number is, if it lies below `n`. -/
def indexOf (n : Nat) (x : Nat) : Option (Fin n) := if h : x < n then some ⟨x, h⟩ else none

/-! ## Command cells (R162, R188) -/

/-- The byte address of a cell. -/
def cellBase (n : Fin 16) : Nat := 0x0100 + 64 * n.val

/-- The owner word of a cell: FREE 0, POSTED 1, TAKEN 2, DONE 3. -/
def ownerWord (m : Memory) (n : Fin 16) : Word := readWord m (cellBase n)

/-- The command kind of a cell. -/
def kindWord (m : Memory) (n : Fin 16) : Word := readWord m (cellBase n + 2)

/-- The 16-bit parameter at an offset of the parameter area. -/
def parameter (m : Memory) (n : Fin 16) (offset : Nat) : Word := readWord m (cellBase n + 0x0C + offset)

/-- The 32-bit parameter at an offset of the parameter area. -/
def parameter32 (m : Memory) (n : Fin 16) (offset : Nat) : DWord := readDWord m (cellBase n + 0x0C + offset)

/-! ## Machine table (R192) -/

/-- A word of the machine table. -/
def tableWord (m : Memory) (offset : Nat) : Nat := (readWord m (0x0800 + offset)).toNat

/-- A 32-bit field of the machine table. -/
def tableDWord (m : Memory) (offset : Nat) : DWord := readDWord m (0x0800 + offset)

/-- A station's position, if its fitted flag is 1. -/
def tableStation (m : Memory) (st : Fin 3) : Option Nat :=
  if tableWord m (0x002 + 2 * st.val) = 1 then some (tableWord m (0x008 + 2 * st.val)) else none

/-- A gate's position, unless the field holds the not-fitted marker 0xFFFF. -/
def tableGate (m : Memory) (j : Fin 24) : Option Nat :=
  if tableWord m (0x010 + 2 * j.val) = 0xFFFF then none else some (tableWord m (0x010 + 2 * j.val))

/-- The geometry of the machine table. -/
def readGeometry (m : Memory) : Geometry where
  p := tableWord m 0x000
  stations := tableOf (tableStation m)
  gates := tableOf (tableGate m)
  w := tableWord m 0x040
  c := tableWord m 0x042

/-- The offset of fire profile `k` in the machine table. -/
def profileOffset (k : Fin 25) : Nat := 0x050 + 10 * k.val

/-- Fire profile `k`: gates 0..23, sweep 24. -/
def readProfile (m : Memory) (k : Fin 25) : Profile where
  delay := tableWord m (profileOffset k)
  hit := tableWord m (profileOffset k + 2)
  hold := tableWord m (profileOffset k + 4)
  duty := tableWord m (profileOffset k + 6)
  carrier := tableWord m (profileOffset k + 8)

/-- The offset of head entry `h` in the machine table. -/
def headOffset (h : Fin 6) : Nat := 0x200 + 64 * h.val

/-- Head entry `h`. -/
def readHeadEntry (m : Memory) (h : Fin 6) : HeadEntry where
  fitted := decide (tableWord m (headOffset h) = 1)
  range := tableWord m (headOffset h + 0x02)
  serial := tableDWord m (headOffset h + 0x04)
  gains := tableOf (fun r => (tableDWord m (headOffset h + 0x08 + 4 * r.val)).toNat)
  nominal := (tableDWord m (headOffset h + 0x28)).toNat
  driftLimit := tableWord m (headOffset h + 0x2C)

/-- The copies an accepted LOT_START takes (R137). -/
def readMachineCopy (m : Memory) : MachineCopy where
  geometry := readGeometry m
  contactDelay := tableWord m 0x046
  relaySettle := tableWord m 0x048
  profiles := tableOf (readProfile m)
  heads := tableOf (readHeadEntry m)

/-! ## Recipe banks (R138, R192) -/

/-- The byte address of a bank. -/
def bankBase : Bank → Nat
  | .bankA => 0x1000 | .bankB => 0x1800

/-- A word of a bank. -/
def bankWord (m : Memory) (b : Bank) (offset : Nat) : Word := readWord m (bankBase b + offset)

/-- A 32-bit field of a bank. -/
def bankDWord (m : Memory) (b : Bank) (offset : Nat) : DWord := readDWord m (bankBase b + offset)

/-- Nominal count E. -/
def bankNominal (m : Memory) (b : Bank) : Nat := (bankDWord m b 0x000).toNat

/-- Range r. -/
def bankRange (m : Memory) (b : Bank) : Word := bankWord m b 0x004

/-- Sample count N. -/
def bankSamples (m : Memory) (b : Bank) : Word := bankWord m b 0x006

/-- Temperature coefficient α. -/
def bankAlpha (m : Memory) (b : Bank) : Int := (bankWord m b 0x008).toInt

/-- T_ref; the default marker 0x7FFF is read as 400 (R138). -/
def bankTRef (m : Memory) (b : Bank) : Int :=
  if bankWord m b 0x00A = 0x7FFF then Config.defaultTRef else (bankWord m b 0x00A).toInt

/-- Max retests. -/
def bankMaxRetests (m : Memory) (b : Bank) : Nat := (bankWord m b 0x00C).toNat

/-- Grade count. -/
def bankGradeCount (m : Memory) (b : Bank) : Nat := (bankWord m b 0x00E).toNat

/-- Outcome-map entry `i`, in the order OPEN, SHORT, CONTACT_FAIL, NO_READING, UNGRADED. -/
def bankMapWord (m : Memory) (b : Bank) (i : Nat) : Word := bankWord m b (0x010 + 2 * i)

/-- The capacity of a gate. -/
def bankCapacity (m : Memory) (b : Bank) (j : Fin 24) : Word := bankWord m b (0x020 + 2 * j.val)

/-- The offset of a grade in its bank. -/
def gradeOffset (g : Fin 32) : Nat := 0x080 + 16 * g.val

/-- The low limit of a grade. -/
def gradeLow (m : Memory) (b : Bank) (g : Fin 32) : Int := (bankDWord m b (gradeOffset g)).toInt

/-- The high limit of a grade. -/
def gradeHigh (m : Memory) (b : Bank) (g : Fin 32) : Int := (bankDWord m b (gradeOffset g + 4)).toInt

/-- The guard of a grade. -/
def gradeGuard (m : Memory) (b : Bank) (g : Fin 32) : Nat := (bankDWord m b (gradeOffset g + 8)).toNat

/-- The retest flag of a grade. -/
def gradeRetest (m : Memory) (b : Bank) (g : Fin 32) : Byte := readByte m (bankBase b + gradeOffset g + 0xC)

/-- The target gate of a grade. -/
def gradeTarget (m : Memory) (b : Bank) (g : Fin 32) : Byte := readByte m (bankBase b + gradeOffset g + 0xD)

/-- The alternate gate of a grade; 0xFF is the absent marker. -/
def gradeAlternate (m : Memory) (b : Bank) (g : Fin 32) : Byte := readByte m (bankBase b + gradeOffset g + 0xE)

/-- The grades of a bank, in table order: entries beyond the grade count are not read (R79). -/
def bankGrades (m : Memory) (b : Bank) : List (Fin 32) :=
  (List.finRange 32).filter (fun g => decide (g.val < bankGradeCount m b))

/-- Where a decision sends a pocket (R80, R85). -/
inductive Target
  | gate (j : Fin 24)
  | sweep
deriving DecidableEq, Repr

/-- The target a gate number names; a number that no validated bank holds is taken as SWEEP (log 16). -/
def targetOf (x : Nat) : Target :=
  match indexOf 24 x with
  | some j => .gate j
  | none => .sweep

/-- The place of a fixed outcome in the outcome map (R138). -/
def mapIndex : PartOutcome → Nat
  | .openCircuit => 0 | .shortCircuit => 1 | .contactFail => 2 | .noReading => 3
  | .ungraded => 4 | .graded => 4 | .binUnavailable => 4 | .ejectMissed => 4 | .ejectUnconfirmed => 4
  | .skipped => 4 | .foreign => 4 | .aborted => 4

/-- The outcome map's target for a fixed outcome (R80). -/
def outcomeTarget (m : Memory) (b : Bank) (o : PartOutcome) : Target := targetOf (bankMapWord m b (mapIndex o)).toNat

/-- The bank a record names; every non-EMPTY record names one (R5, log 16). -/
def Pocket.bankOr (r : Pocket) : Bank := r.bank.getD .bankA

end Sys2Proof.Machine
end

