-- ==== Sys2Proof/Machine/Flags.lean ====
section
/-! DEFINITION. The flags the part derives from its state: event flags and IRQ, the full flag and availability of a gate,
valve forcing, the lock map, and the output lines. -/

namespace Sys2Proof.Machine

/-! ## Events and IRQ (R133, R157) -/

/-- The flags of EVENTS. -/
inductive Event
  | journal | slate | lot | halt | bin | head | refused
deriving DecidableEq, Repr

/-- The bit of an event in EVENTS and EVENT_MASK (R193). -/
def Event.bit : Event → BitVec 7
  | .journal => 0x01 | .slate => 0x02 | .lot => 0x04 | .halt => 0x08 | .bin => 0x10 | .head => 0x20 | .refused => 0x40

/-- Sets an event flag; a flag already set stays set (R157). -/
def Device.raise (d : Device) (e : Event) : Device := { d with port := { d.port with events := d.port.events ||| e.bit } }

/-- IRQ is high while the AND of EVENTS and EVENT_MASK is not zero (R133). -/
def irq (d : Device) : Bool := decide (d.port.events &&& d.port.mask ≠ 0)

/-! ## Gates (R96, R100, R102) -/

/-- Pending: the number of entries in the window FIFO (R96). -/
def Gate.pending (g : Gate) : Nat := g.windows.length

/-- What the full flag shows when it is re-evaluated (R100). -/
def Gate.fullNow (g : Gate) : Bool :=
  (decide (0 < g.capacity.toNat) && decide (g.capacity.toNat ≤ g.tally.toNat + g.pending)) || g.levelFull

/-- A gate is available when its mode is SORT, it is not offline, not full, and its capacity is above 0 (R102). -/
def Gate.available (g : Gate) : Bool :=
  decide (g.mode = .sort) && !g.offline && !g.full && decide (0 < g.capacity.toNat)

/-! ## Valve forcing and the outputs (R113, R132) -/

/-- The gate of a valve output 0..23; none for the sweep valve, output 24. -/
def gateOf (output : Fin 25) : Option (Fin 24) := indexOf 24 output.val

/-- The valve output of a gate. -/
def outputOf (j : Fin 24) : Fin 25 := ⟨j.val, by omega⟩

/-- The run of a gate's test fire, while it is in phase PROFILE. -/
def Gate.testRun (g : Gate) : Option Run :=
  match g.test with
  | some { phase := .profile run, .. } => some run
  | _ => none

/-- Whether an output's gate has a test fire in phase PROFILE. -/
def Device.testProfileOn (d : Device) (output : Fin 25) : Bool :=
  match gateOf output with
  | some j => (d.gates[j]).testRun.isSome
  | none => false

/-- Whether a valve output is held off: GUARD open, lot HALTED, or lot IDLE without a test fire in phase PROFILE on
that output's gate (R113). -/
def Device.forcedOff (d : Device) (output : Fin 25) : Bool :=
  !d.sensor.guardClosed || decide (d.lot.state = .halted)
    || (decide (d.lot.state = .idle) && !d.testProfileOn output)

/-- Whether a run drives its output on, by its phase (R107) and unless it started under forcing (R113). -/
def Run.drives (r : Run) : Bool :=
  !r.heldOff && match r.phase with
    | .delay => false
    | .hit => true
    | .hold => r.on

/-- The run on a valve output: a gate's fire, its test fire's profile, or the sweep fire. -/
def Device.runOn (d : Device) (output : Fin 25) : Option Run :=
  match gateOf output with
  | some j =>
    match (d.gates[j]).fire with
    | some f => some f.run
    | none => (d.gates[j]).testRun
  | none => d.sweep

/-- A valve output, VALVE0..23 and VALVE_SW (R132). -/
def valveLine (d : Device) (output : Fin 25) : Bool :=
  !d.forcedOff output && match d.runOn output with
    | some r => r.drives
    | none => false

/-- STOP is high when the lot is HALTED (R30, R132). -/
def stopLine (d : Device) : Bool := decide (d.lot.state = .halted)

/-- HEAD_SEL is high when the station's active side is B (R45, R132). -/
def headSelLine (d : Device) (st : Fin 3) : Bool := decide ((d.stations[st]).side = .sideB)

/-- LVL_DRV is high on the driven line of the scan (R128, R132). -/
def levelDriveLine (d : Device) (line : Fin 5) : Bool := decide (d.sensor.driven = some line)

/-! ## Reference counts and the lock map (R142, R143, R152) -/

/-- The reference count of a bank: the non-EMPTY records that name it (R142). -/
def Device.refCount (d : Device) (b : Bank) : Nat :=
  d.track.toList.countP (fun r => decide (r.state ≠ .empty) && decide (r.bank = some b))

/-- A bank is locked while it is the load bank or its reference count is above 0 (R142). -/
def Device.bankLocked (d : Device) (b : Bank) : Bool := decide (d.lot.load = some b) || decide (0 < d.refCount b)

/-- The machine table is locked while the lot is not IDLE or the protect state is asserted (R143). -/
def Device.tableLocked (d : Device) : Bool := decide (d.lot.state ≠ .idle) || d.sensor.protect

/-- A cell is locked while its owner word holds TAKEN (R152, R163). -/
def Device.cellLocked (d : Device) (n : Fin 16) : Bool := decide (ownerWord d.mem n = 2)

/-- A page is locked while it is the Journal Writer's open page (R152, R178). -/
def Device.pageLocked (d : Device) (n : Fin 80) : Bool := d.journal.isOpen && decide (d.journal.page = n)

/-- Whether a host write to a byte address is refused outside initialization (R151, R152). -/
def Device.refuses (d : Device) (a : Nat) : Bool :=
  if a < 0x0100 then true
  else if a < 0x0500 then d.cellLocked (Fin.ofNat 16 ((a - 0x0100) / 64))
  else if a < 0x0800 then true
  else if a < 0x1000 then d.tableLocked
  else if a < 0x1800 then d.bankLocked .bankA
  else if a < 0x2000 then d.bankLocked .bankB
  else if a < 0xC000 then d.pageLocked (Fin.ofNat 80 ((a - 0x2000) / 512))
  else !(decide (a = 0xC004) || decide (a = 0xC006) || decide (a = 0xC008))

end Sys2Proof.Machine
end

