-- ==== Sys2Proof/Machine/Journal.lean ====
section
/-! DEFINITION. The Journal Writer: records and their bytes (R189, R190), pages, stalls, GAP records and flushes
(R176 to R185). The Writer works on its own fields, the exchange memory and the event flags alone. -/

namespace Sys2Proof.Machine

/-! ## Records (R179, R189) -/

/-- The kinds of a BIN_EVENT (R101, R115, R116). -/
inductive BinKind
  | full | available | swapBegin | swapEnd
deriving DecidableEq, Repr

/-- A record as its block produces it, before its sequence and K. -/
inductive Record
  | partResult (pocket : Fin 96) (record : Pocket) (gate : Option (Fin 24))
  | lotStart (bank : Bank) (lotId firstSerial : DWord)
  | lotHalt (cause : HaltCause) (ret : ReturnState)
  | lotResume (entered : LotState)
  | lotEnd (gradeCount totals : Nat) (lotId : DWord)
  | lotAbort (gradeCount totals : Nat) (state : LotState) (lotId : DWord) (cause : Option HaltCause)
  | lotTotals (first : Nat) (values : List DWord)
  | binEvent (gate : Fin 24) (kind : BinKind) (tally : Word)
  | headEvent (head : Fin 6) (old new : HeadState) (station : StationState)
  | gap (first count : DWord)
deriving DecidableEq, Repr

/-- A number as a byte. -/
def byteOf (x : Nat) : Byte := BitVec.ofNat 8 x

/-- The record kind byte (R189). -/
def Record.kindByte : Record → Byte
  | .partResult _ _ _ => 1
  | .lotStart _ _ _ => 2
  | .lotHalt _ _ => 2
  | .lotResume _ => 2
  | .lotEnd _ _ _ => 2
  | .lotAbort _ _ _ _ _ => 2
  | .lotTotals _ _ => 2
  | .binEvent _ _ _ => 3
  | .headEvent _ _ _ _ => 4
  | .gap _ _ => 5

/-- A bit of a flags byte or word. -/
def bitIf (b : Bool) (value : Nat) : Nat := if b then value else 0

/-- The PART_RESULT flags byte (R189); 0 in other kinds. -/
def Record.flagsByte : Record → Byte
  | .partResult _ r _ =>
    byteOf (bitIf r.redirected 1 + bitIf r.retestSkipped 2 + bitIf r.retestLate 4
      + bitIf (r.readings.any (·.tempHeld)) 8 + bitIf (r.readings.any (·.tempDefault)) 16 + bitIf r.serial.isNone 32)
  | _ => 0

/-- The three bits that name the head of a reading: station in the low two, side in the high one (R189). -/
def readingHeadBits : Option Reading → Nat
  | some x => x.station.val + 4 * x.side.code
  | none => 0

/-- The d_t field of a reading; 0 beyond the readings count (R189). -/
def readingBytes : Option Reading → List Byte
  | some x => deviationBytes x.deviation
  | none => deviationBytes 0

/-- The word at 0x0E of a PART_RESULT: bank bit, readings count, heads of the readings (R189). -/
def resultWord (r : Pocket) : Word :=
  BitVec.ofNat 16 (bitIf (decide (r.bank = some .bankB)) 1 + 2 * r.readings.length
    + 8 * readingHeadBits r.readings[0]? + 64 * readingHeadBits r.readings[1]? + 512 * readingHeadBits r.readings[2]?)

/-- The bytes of a record from 0x0A on (R189, R190). A PART_RESULT without an outcome, which no run produces, is reported as
ABORTED (log 16). -/
def Record.body : Record → List Byte
  | .partResult p r gate =>
    [byteOf p.val, byteOf (r.outcome.getD .aborted).code.val,
      (match r.grade with | some g => byteOf g.val | none => 0xFF),
      (match gate with | some j => byteOf j.val | none => 0xFF)]
    ++ wordBytes (resultWord r) ++ dwordBytes (r.serial.getD 0)
    ++ readingBytes r.readings[0]? ++ readingBytes r.readings[1]? ++ readingBytes r.readings[2]?
    ++ deviationBytes (r.deviation.getD 0)
  | .lotStart bank lotId firstSerial => [1, byteOf bank.code] ++ dwordBytes lotId ++ dwordBytes firstSerial
  | .lotHalt cause ret => [2, byteOf cause.code, byteOf ret.lotState.code]
  | .lotResume entered => [3, byteOf entered.code]
  | .lotEnd g n lotId => [4, byteOf g, byteOf n, 0] ++ dwordBytes lotId
  | .lotAbort g n state lotId cause =>
    [5, byteOf g, byteOf n, byteOf state.code] ++ dwordBytes lotId ++ [byteOf (causeCode cause)]
  | .lotTotals first values => [6, byteOf first] ++ (values.map dwordBytes).flatten
  | .binEvent gate kind tally =>
    [byteOf gate.val, (match kind with | .full => 1 | .available => 2 | .swapBegin => 3 | .swapEnd => 4)]
    ++ wordBytes tally
  | .headEvent head old new station =>
    [byteOf head.val, byteOf old.code, byteOf new.code, byteOf station.code]
  | .gap first count => dwordBytes first ++ dwordBytes count

/-- The 32 bytes of a record's slot: kind, flags, sequence, K, body; bytes that no table names are 0 (R189). -/
def Record.bytes (r : Record) (sequence k : DWord) : List Byte :=
  let named := [r.kindByte, r.flagsByte] ++ dwordBytes sequence ++ dwordBytes k ++ r.body
  named ++ List.replicate (32 - named.length) 0

/-! ## The Writer (R177) -/

/-- What the Journal Writer works on: its own fields, the exchange memory and the event flags. -/
structure Writer where
  journal : Journal
  mem     : Memory
  events  : BitVec 7
deriving DecidableEq, Repr

/-- The byte address of a page (R176). -/
def pageBase (n : Fin 80) : Nat := 0x2000 + 512 * n.val

/-- The state word of a page: FREE 0, FILLING 1, FULL 2 (R189). -/
def pageState (m : Memory) (n : Fin 80) : Word := readWord m (pageBase n)

/-- The record count of a page. -/
def pageCount (m : Memory) (n : Fin 80) : Nat := (readWord m (pageBase n + 2)).toNat

/-- The page after a page, in address order: page 0 after page 79 (R180). -/
def nextPageOf (n : Fin 80) : Fin 80 := n + 1

/-- The Writer opens a page in one step (R178): header written, slots cleared, Open set, page sequence advanced. The header
bytes 0x10 to 0x1F, which no table names, are written 0 (12_formats.md). -/
def Writer.openPage (w : Writer) (n : Fin 80) (lotId : DWord) : Writer :=
  let m0 := clearRange w.mem (pageBase n) (pageBase n + 0x200)
  let m1 := writeWord m0 (pageBase n) 1
  let m2 := writeWord m1 (pageBase n + 2) 0
  let m3 := writeDWord m2 (pageBase n + 4) w.journal.nextPage
  let m4 := writeDWord m3 (pageBase n + 8) w.journal.nextRecord
  let m5 := writeDWord m4 (pageBase n + 0xC) lotId
  { w with
    journal := { w.journal with page := n, isOpen := true, nextPage := w.journal.nextPage + 1 }
    mem := m5 }

/-- The Writer enters a stall on the page it waits for; the JOURNAL event is set (R181). -/
def Writer.enterStall (w : Writer) (n : Fin 80) : Writer :=
  { w with
    journal := { w.journal with page := n, isOpen := false, stalled := true, withheld := 0 }
    events := w.events ||| Event.journal.bit }

/-- The Writer looks for a page: it opens it if it is FREE and stalls on it otherwise (R180, R181). -/
def Writer.lookFor (w : Writer) (n : Fin 80) (lotId : DWord) : Writer :=
  if pageState w.mem n = 0 then w.openPage n lotId else w.enterStall n

/-- The Writer closes its open page as FULL, sets JOURNAL and looks for the next page (R180, R183). -/
def Writer.closePage (w : Writer) (lotId : DWord) : Writer :=
  let closed : Writer :=
    { journal := { w.journal with isOpen := false }
      mem := writeWord w.mem (pageBase w.journal.page) 2
      events := w.events ||| Event.journal.bit }
  closed.lookFor (nextPageOf w.journal.page) lotId

/-- A record's bytes go into the slot whose number is the page's record count; the fifteenth record closes the page
(R180). -/
def Writer.writeSlot (w : Writer) (bytes : List Byte) (lotId : DWord) : Writer :=
  let page := w.journal.page
  let count := pageCount w.mem page
  let m0 := writeBytes w.mem (pageBase page + 0x20 + 32 * count) bytes
  let written : Writer := { w with mem := writeWord m0 (pageBase page + 2) (BitVec.ofNat 16 (count + 1)) }
  if Config.pageSlots ≤ count + 1 then written.closePage lotId else written

/-- The Writer takes the next record sequence (R179). -/
def Writer.takeSequence (w : Writer) : Writer :=
  { w with journal := { w.journal with nextRecord := w.journal.nextRecord + 1 } }

/-- A withheld record: counted, its sequence the first withheld one if it is the first (R181, log 15). -/
def Writer.withhold (w : Writer) (sequence : DWord) : Writer :=
  let j := w.journal
  { w with journal :=
    { j with
      firstWithheld := if j.withheld = 0 then sequence else j.firstWithheld
      withheld := if j.withheld = BitVec.allOnes 32 then Config.withheldPastMaximum sequence else j.withheld + 1 } }

/-- The Writer resumes on the page it waits for (R182): the page is opened, a GAP record reports what was withheld, the
stall is cleared. -/
def Writer.resume (w : Writer) (k lotId : DWord) : Writer :=
  let opened := w.openPage w.journal.page lotId
  let reported :=
    if w.journal.withheld = 0 then opened
    else
      (opened.takeSequence).writeSlot
        ((Record.gap w.journal.firstWithheld w.journal.withheld).bytes opened.journal.nextRecord k) lotId
  { reported with journal := { reported.journal with withheld := 0, firstWithheld := 0, stalled := false } }

/-- While stalled, the Writer examines the page it waits for and resumes if it is FREE (R182). -/
def Writer.examine (w : Writer) (k lotId : DWord) : Writer :=
  if w.journal.stalled && decide (pageState w.mem w.journal.page = 0) then w.resume k lotId else w

/-- What a production does before its record is given a sequence: nothing with a page open, the examination of R182
while stalled, the first look of R179 otherwise. -/
def Writer.prepare (w : Writer) (k lotId : DWord) : Writer :=
  if w.journal.isOpen then w
  else if w.journal.stalled then w.examine k lotId
  else w.lookFor w.journal.page lotId

/-- A record is produced: it takes the next sequence and is written into the open page or withheld (R179). -/
def Writer.produce (w : Writer) (r : Record) (k lotId : DWord) : Writer :=
  let ready := w.prepare k lotId
  let numbered := ready.takeSequence
  if numbered.journal.isOpen then numbered.writeSlot (r.bytes ready.journal.nextRecord k) lotId
  else numbered.withhold ready.journal.nextRecord

/-- The record count that a flush reports: 0 where it closes nothing (R183). -/
def Writer.flushCount (w : Writer) : Nat := if w.journal.isOpen then pageCount w.mem w.journal.page else 0

/-- A flush closes the open page if it holds at least one record (R183). -/
def Writer.flush (w : Writer) (lotId : DWord) : Writer := if w.flushCount = 0 then w else w.closePage lotId

/-! ## The Writer in the part -/

/-- What the Writer works on, in a part. -/
def Device.writer (d : Device) : Writer where
  journal := d.journal
  mem := d.mem
  events := d.port.events

/-- The part after the Writer's work. -/
def Device.withWriter (d : Device) (w : Writer) : Device :=
  { d with journal := w.journal, mem := w.mem, port := { d.port with events := w.events } }

/-- A block produces a record, carrying the present K; a page opened for it carries the lot id held (R176, R179). -/
def Device.produce (d : Device) (r : Record) : Device := d.withWriter (d.writer.produce r d.k d.lot.lotId)

/-- A block produces a record and sets its event (R157). -/
def Device.produceWith (d : Device) (e : Event) (r : Record) : Device := (d.produce r).raise e

/-- The Writer flushes its current page (R183). -/
def Device.flush (d : Device) : Device := d.withWriter (d.writer.flush d.lot.lotId)

/-- The Writer meets an accepted host write into the state word of the page it waits for (R182, R184). -/
def Device.examineAwaited (d : Device) : Device := d.withWriter (d.writer.examine d.k d.lot.lotId)

end Sys2Proof.Machine
end

