-- ==== Sys2Proof/Machine/Slate.lean ====
section
/-! DEFINITION. Command cells: the take, the completion and its result codes (R162, R164, R168). -/

namespace Sys2Proof.Machine

/-- The result codes (R167, R188). -/
inductive ResultCode
  | ok | refusedState | refusedBusy | refusedInvalid | refusedUnknown | aborted
deriving DecidableEq, Repr

def ResultCode.code : ResultCode → Word
  | .ok => 0 | .refusedState => 1 | .refusedBusy => 2 | .refusedInvalid => 3 | .refusedUnknown => 4 | .aborted => 5

/-- The regions a REFUSED_INVALID can name (R140, R188). -/
inductive Region
  | parameters | machineTable | bankA | bankB
deriving DecidableEq, Repr

def Region.code : Region → Nat
  | .parameters => 0 | .machineTable => 1 | .bankA => 2 | .bankB => 3

/-- The region of a bank. -/
def regionOf : Bank → Region
  | .bankA => .bankA | .bankB => .bankB

/-- The detail of a REFUSED_INVALID: region code in the high half, byte offset in the low half (R188). -/
def invalidDetail (region : Region) (offset : Nat) : DWord := BitVec.ofNat 32 (region.code * 0x10000 + offset)

/-- A completion (R168): result code, detail, then DONE; the cell leaves the taken set and SLATE is set. -/
def Device.complete (d : Device) (n : Fin 16) (code : ResultCode) (detail : DWord) : Device :=
  let m0 := writeWord d.mem (cellBase n + 6) code.code
  let m1 := writeDWord m0 (cellBase n + 8) detail
  let m2 := writeWord m1 (cellBase n) 3
  { d with
    mem := m2
    slate := { d.slate with taken := d.slate.taken.set n false }
    port := { d.port with events := d.port.events ||| Event.slate.bit } }

/-- The completion of a long-running command, if its cell is known. -/
def Device.completeSome (d : Device) (n : Option (Fin 16)) (code : ResultCode) (detail : DWord) : Device :=
  match n with
  | some n => d.complete n code detail
  | none => d

/-- The first step of a take (R164): owner word TAKEN, the cell joins the taken set, the cursor moves to it. -/
def Device.markTaken (d : Device) (n : Fin 16) : Device :=
  { d with
    mem := writeWord d.mem (cellBase n) 2
    slate := { d.slate with taken := d.slate.taken.set n true, cursor := n } }

/-- The take of a cell by a visit (R164): the command runs on the state in which the cell is TAKEN. A cell already in
the taken set is passed (R163). -/
def Device.take (d : Device) (n : Fin 16) (command : Device → Device) : Device :=
  if d.slate.taken[n] then d else command (d.markTaken n)

/-- An answer that refuses the command and changes nothing else (R167). -/
def Device.refuse (d : Device) (n : Fin 16) (code : ResultCode) (detail : DWord) : Device := d.complete n code detail

end Sys2Proof.Machine
end

