-- ==== Sys2Proof/Machine/Gates.lean ====
section
/-! DEFINITION. The Gate Controller (06_gates_valves_and_bins.md): runs of a valve profile, fires and windows, the full
flag, arrivals, bin swaps and test fires. -/

namespace Sys2Proof.Machine

/-! ## Runs of a profile (R107) -/

/-- The on-part of carrier period `n` of HOLD, in sixteenths of a µs: duty/16 of the period, or the time remaining in
HOLD if that is less (R107). -/
def Profile.onPart (p : Profile) (n : Nat) : Nat := min (p.duty * p.carrier) (16 * (p.hold - n * p.carrier))

/-- A run at its start: a fire delay of 0 begins HIT at once (R107). -/
def Profile.start (p : Profile) (heldOff : Bool) : Run where
  phase := if p.delay = 0 then .hit else .delay
  heldOff := heldOff
  on := false
  period := 0
  onPart := 0

/-- The end of DELAY starts HIT (R107). -/
def Run.endDelay (_ : Profile) (r : Run) : Option Run :=
  if r.phase = .delay then some { r with phase := .hit } else some r

/-- The end of HIT starts HOLD, with the on-part of its first carrier period, or ends the run where the hold time is 0
(R107). -/
def Run.endHit (p : Profile) (r : Run) : Option Run :=
  if r.phase = .hit then
    if p.hold = 0 then none
    else some { r with phase := .hold, on := true, period := 0, onPart := p.onPart 0 }
  else some r

/-- The edges inside a carrier period of HOLD (R107): a period that would start after the end of HOLD does not start,
and a duty of 16 leaves no off-part. -/
def Run.carrier (edge : CarrierEdge) (p : Profile) (r : Run) : Option Run :=
  if r.phase = .hold then
    match edge with
    | .onPartEnd => if p.duty < 16 then some { r with on := false } else some r
    | .periodStart =>
      if (r.period + 1) * p.carrier < p.hold then
        some { r with on := true, period := r.period + 1, onPart := p.onPart (r.period + 1) }
      else some r
  else some r

/-- The end of HOLD ends the run (R107). -/
def Run.endHold (_ : Profile) (r : Run) : Option Run := if r.phase = .hold then none else some r

/-- The profile the lot uses for an output (R106); no open lot lacks a copy (log 16). -/
def Device.heldProfile (d : Device) (output : Fin 25) : Profile :=
  match d.held with
  | some c => c.profiles[output]
  | none => { delay := 0, hit := 0, hold := 0, duty := 0, carrier := 0 }

/-- A phase event on a gate's output: it acts on the gate's fire, which becomes absent when its run ends, or on its
test fire in phase PROFILE, which then enters OBSERVE (R107, R117). -/
def Gate.stepRun (held : Profile) (f : Profile → Run → Option Run) (g : Gate) : Gate :=
  match g.fire with
  | some fire => { g with fire := (f held fire.run).map (fun run => { fire with run := run }) }
  | none =>
    match g.test with
    | some t =>
      match t.phase with
      | .profile run =>
        match f t.profile run with
        | some run' => { g with test := some { t with phase := .profile run' } }
        | none => { g with test := some { t with phase := .observe } }
      | .observe => g
    | none => g

/-- A phase event on a valve output, gate or sweep. -/
def Device.stepRun (d : Device) (output : Fin 25) (f : Profile → Run → Option Run) : Device :=
  match gateOf output with
  | some j => d.updGate j (Gate.stepRun (d.heldProfile output) f)
  | none => { d with sweep := d.sweep.bind (f (d.heldProfile output)) }

/-! ## BIN_EVENTs, the full flag and bin swaps (R101, R115) -/

/-- A BIN_EVENT of a gate, with its present tally, and the BIN event. -/
def Device.binEvent (d : Device) (j : Fin 24) (kind : BinKind) : Device :=
  d.produceWith .bin (.binEvent j kind (d.gates[j]).tally)

/-- The re-evaluation of a gate's full flag: a change produces a BIN_EVENT full or available (R101). -/
def Device.reevaluate (d : Device) (j : Fin 24) : Device :=
  let now := (d.gates[j]).fullNow
  if now = (d.gates[j]).full then d
  else (d.updGate j (fun g => { g with full := now })).binEvent j (if now then .full else .available)

/-- The completion of a BIN_SWAP_BEGIN in progress when the gate's pending is 0 (R115). -/
def Device.swapTest (d : Device) (j : Fin 24) : Device :=
  match (d.gates[j]).swap with
  | some cell =>
    if (d.gates[j]).pending = 0 then
      ((d.binEvent j .swapBegin).updGate j (fun g => { g with swap := none })).complete cell .ok
        ((d.gates[j]).tally.setWidth 32)
    else d
  | none => d

/-- What follows each event that lowers a gate's pending: the swap begin completes if it can, and the full flag is
re-evaluated, its record after the other (R101, R115). -/
def Device.pendingLowered (d : Device) (j : Fin 24) : Device := (d.swapTest j).reevaluate j

/-! ## Fires and windows -/

/-- A record becomes CARRY with an outcome that replaces the one it held; its target gate is kept for EJECT_MISSED and
EJECT_UNCONFIRMED and removed otherwise (R18). -/
def Pocket.toCarry (o : PartOutcome) (r : Pocket) : Pocket :=
  { r with
    state := .carry
    outcome := some o
    target := if o = .ejectMissed ∨ o = .ejectUnconfirmed then r.target else none }

/-- A FIRED record becomes CARRY; a record in another state is unchanged (R22). -/
def Pocket.ejectionFailed (o : PartOutcome) (r : Pocket) : Pocket := if r.state = .fired then r.toCarry o else r

/-- The windows without the entry of a pocket and K. -/
def removeWindow (ws : List Window) (pocket : Fin 96) (k : DWord) : List Window :=
  ws.filter (fun w => !(decide (w.pocket = pocket) && decide (w.k = k)))

/-- The fire that an index event cancels: the one still in DELAY (R108). -/
def Gate.cancelled (g : Gate) : Option GateFire :=
  match g.fire with
  | some f => if f.run.phase = .delay then some f else none
  | none => none

/-- The windows that cancellation leaves. -/
def Gate.windowsKept (g : Gate) : List Window :=
  match g.cancelled with
  | some f => removeWindow g.windows f.pocket f.k
  | none => g.windows

/-- The windows an index event finds two events old (R109, R110). -/
def agedWindows (ws : List Window) (k : DWord) : List Window := ws.filter (fun w => decide (w.k = k - 2))

/-- The windows it leaves open. -/
def youngWindows (ws : List Window) (k : DWord) : List Window := ws.filter (fun w => !decide (w.k = k - 2))

/-- The Gate Controller treats an index event at one gate, before any arrival (R109): its fire is cancelled or cut,
windows two events old close unconfirmed, and pending, if it changed, is followed up. -/
def Device.treatGate (d : Device) (j : Fin 24) : Device :=
  let g := d.gates[j]
  let d1 := d.updGate j (fun g => { g with fire := none, windows := youngWindows g.windowsKept d.k })
  let d2 := match g.cancelled with
    | some f => d1.updPocket f.pocket (Pocket.ejectionFailed .ejectMissed)
    | none => d1
  let d3 := (agedWindows g.windowsKept d.k).foldl
    (fun d w => d.updPocket w.pocket (Pocket.ejectionFailed .ejectUnconfirmed)) d2
  if (youngWindows g.windowsKept d.k).length = g.windows.length then d3 else d3.pendingLowered j

/-- The Gate Controller treats an index event: every gate, in ascending order, and the sweep fire (R109). -/
def Device.treatGates (d : Device) : Device := forEach 24 (fun j d => d.treatGate j) { d with sweep := none }

/-- The alternate gate of a record at its target gate: that of the grade it holds, in the bank it names, if the
outcome is GRADED (R105). -/
def alternateOf (m : Memory) (r : Pocket) : Option (Fin 24) :=
  match r.outcome, r.grade with
  | some .graded, some g => indexOf 24 (gradeAlternate m r.bankOr g).toNat
  | _, _ => none

/-- Whether gate `a` is fitted at a position greater than that of gate `j`. -/
def Geometry.liesAfter (g : Geometry) (j a : Fin 24) : Bool :=
  match g.gates[a], g.gates[j] with
  | some pa, some pj => decide (pj < pa)
  | _, _ => false

/-- The gate to which an arrival that finds its gate unavailable is redirected, if any (R103). -/
def Device.redirectOf (d : Device) (j : Fin 24) (r : Pocket) : Option (Fin 24) :=
  if r.redirected then none
  else
    match alternateOf d.mem r with
    | some a => if d.geometry.liesAfter j a then some a else none
    | none => none

/-- A fire started at an arrival: window, fire in progress, record FIRED, full flag (R104). It runs with its output
held off if forcing holds (R113). -/
def Device.fireGate (d : Device) (j : Fin 24) (p : Fin 96) : Device :=
  let run := (d.heldProfile (outputOf j)).start (d.forcedOff (outputOf j))
  let d1 := d.updGate j (fun g =>
    { g with windows := g.windows ++ [{ pocket := p, k := d.k }], fire := some { pocket := p, k := d.k, run := run } })
  (d1.updPocket p (fun r => { r with state := .fired })).reevaluate j

/-- The decision on an arrival (R103): fire, redirect once, or CARRY with BIN_UNAVAILABLE. -/
def Device.arrive (d : Device) (j : Fin 24) (p : Fin 96) : Device :=
  if (d.gates[j]).available then d.fireGate j p
  else
    match d.redirectOf j (d.track[p]) with
    | some a => d.updPocket p (fun r => { r with target := some a, redirected := true })
    | none => d.updPocket p (Pocket.toCarry .binUnavailable)

/-- The gate work of an index event at gate `j` (R12): a GRADED record whose target is `j` is an arrival. -/
def Device.gateWork (d : Device) (j : Fin 24) : Device :=
  match d.geometry.gates[j] with
  | some x =>
    let p := pocketAt d.geometry.p d.phi x
    if (d.track[p]).state = .graded ∧ (d.track[p]).target = some j then d.arrive j p else d
  | none => d

/-- The sweep fire is started (R114). -/
def Device.startSweep (d : Device) : Device :=
  { d with sweep := some ((d.heldProfile 24).start (d.forcedOff 24)) }

/-! ## Forcing and the end of fires (R108, R113, R119) -/

/-- Every gate fire and the sweep fire become absent with their outputs off; windows stay (R108, R113). -/
def Device.cutFires (d : Device) : Device :=
  { d with gates := mapVec (fun g => { g with fire := none }) d.gates, sweep := none }

/-- The detail of a test fire's answer: 1 if at least one edge was seen (R118). -/
def TestFire.detail (t : TestFire) : DWord := if t.edges = 0 then 0 else 1

/-- A test fire of a gate ends at once with ABORTED (R118). -/
def Device.abortTest (d : Device) (j : Fin 24) : Device :=
  match (d.gates[j]).test with
  | some t => (d.updGate j (fun g => { g with test := none })).complete t.cell .aborted t.detail
  | none => d

/-- Every test fire ends with ABORTED, at a GUARD opening or an accepted LOT_START (R118). -/
def Device.abortTests (d : Device) : Device := forEach 24 (fun j d => d.abortTest j) d

/-- The forcing of GUARD is applied at its filtered opening (R113, R125). -/
def Device.guardForcing (d : Device) : Device := d.cutFires.abortTests

/-- The Gate Controller's part of a LOT_ABORT, step 1 (R34, R119): fires ended, windows discarded, the full flag of each
gate whose pending changed re-evaluated in ascending order. -/
def Device.discardWindow (d : Device) (j : Fin 24) : Device :=
  if (d.gates[j]).windows = [] then d
  else (d.updGate j (fun g => { g with windows := [] })).reevaluate j

/-- Every window is discarded. -/
def Device.discardWindows (d : Device) : Device := forEach 24 (fun j d => d.discardWindow j) d

/-- The new bank's capacities are taken and every full flag re-evaluated in ascending gate order (R98, R101). -/
def Device.takeCapacities (d : Device) (b : Bank) : Device :=
  forEach 24 (fun j d => d.reevaluate j)
    { d with gates := tableOf (fun j => { d.gates[j] with capacity := bankCapacity d.mem b j }) }

/-- A change of the reported state of a gate's level switch (R96, R129). -/
def Device.setLevel (d : Device) (j : Fin 24) (full : Bool) : Device :=
  (d.updGate j (fun g => { g with levelFull := full })).reevaluate j

end Sys2Proof.Machine
end

