-- ==== Sys2Proof/Machine/Lot.lean ====
section
/-! DEFINITION. The Lot Controller's shared work (02_lot_control.md): counters, halt requests, retirements, and the
completion of a pending BANK_SWITCH (R148). -/

namespace Sys2Proof.Machine

/-! ## Lot counters (R35, numbered as R190) -/

/-- The number of a lot counter. -/
inductive Counter
  | loaded
  | foreign
  | retired (o : PartOutcome)
  | redirected
  | retests
  | grade (g : Fin 32)
deriving DecidableEq, Repr

/-- The counter's index (R190). -/
def Counter.index : Counter → Fin 48
  | .loaded => 0
  | .foreign => 1
  | .retired o => ⟨2 + o.code.val, by omega⟩
  | .redirected => 14
  | .retests => 15
  | .grade g => ⟨16 + g.val, by omega⟩

/-- A counter's value. -/
def Lot.count (l : Lot) (c : Counter) : DWord := l.counters[c.index]

/-- A counter rises by 1, saturating (R35). -/
def Lot.bump (l : Lot) (c : Counter) : Lot := { l with counters := l.counters.set c.index (satInc l.counters[c.index]) }

/-- The counters a retirement increments: its outcome's, its grade's if the outcome is GRADED, and redirected (R35). -/
def Lot.countRetired (l : Lot) (r : Pocket) : Lot :=
  let o := r.outcome.getD .aborted
  let l1 := l.bump (.retired o)
  let l2 := match o, r.grade with
    | .graded, some g => l1.bump (.grade g)
    | _, _ => l1
  if r.redirected then l2.bump .redirected else l2

/-! ## Halts (R28) -/

/-- The entry to HALTED from RUNNING or DRAINING: return state and cause set, fires cut, LOT_EVENT(halt), HALT event. -/
def Device.enterHalt (d : Device) (cause : HaltCause) (ret : ReturnState) : Device :=
  ((d.updLot (fun l => { l with state := .halted, cause := some cause, ret := some ret })).cutFires).produceWith
    .halt (.lotHalt cause ret)

/-- A halt request is taken: it halts a RUNNING or DRAINING lot, is absorbed in HALTED and has no effect in IDLE
(R28). -/
def Device.haltRequest (d : Device) (cause : HaltCause) : Device :=
  match d.lot.state with
  | .running => d.enterHalt cause .running
  | .draining => d.enterHalt cause .draining
  | .halted => d
  | .idle => d

/-! ## Retirement (R19) -/

/-- The PART_RESULT's gate field: the confirming gate, the kept target for EJECT_MISSED and EJECT_UNCONFIRMED, none
otherwise (R19). -/
def resultGate (r : Pocket) (confirmed : Option (Fin 24)) : Option (Fin 24) :=
  match confirmed with
  | some j => some j
  | none => if r.outcome = some .ejectMissed ∨ r.outcome = some .ejectUnconfirmed then r.target else none

/-- A retirement: PART_RESULT, counters, and the record returns to EMPTY, together (R19). -/
def Device.retire (d : Device) (p : Fin 96) (confirmed : Option (Fin 24)) : Device :=
  let r := d.track[p]
  ((d.produce (.partResult p r (resultGate r confirmed))).updLot (fun l => l.countRetired r)).updPocket p
    (fun _ => Pocket.empty)

/-- A pending BANK_SWITCH completes with OK when no record names its old bank (R148). -/
def Device.switchTest (d : Device) : Device :=
  match d.lot.switch with
  | some sw =>
    if d.refCount sw.old = 0 then
      (d.updLot (fun l => { l with switch := none })).complete sw.cell .ok (BitVec.ofNat 32 sw.references)
    else d
  | none => d

/-- A retirement outside a LOT_ABORT, with the test of a pending BANK_SWITCH that follows it (R148). -/
def Device.retireTested (d : Device) (p : Fin 96) (confirmed : Option (Fin 24)) : Device :=
  (d.retire p confirmed).switchTest

/-- Every pocket record is EMPTY. -/
def Device.trackEmpty (d : Device) : Bool := d.track.toList.all (fun r => decide (r.state = .empty))

/-! ## Lot totals (R36, R190) -/

/-- The grade count of the active bank, which bounds the lot totals (R36). -/
def Device.totalsGrades (d : Device) : Nat :=
  match d.lot.active with
  | some b => bankGradeCount d.mem b
  | none => 0

/-- The number of totals records: (16 + G) ÷ 5, rounded up (R190). -/
def totalsCount (grades : Nat) : Nat := (16 + grades + 4) / 5

/-- The value a totals record carries for a counter number: 0 beyond counter 15 + G (R190). -/
def Lot.totalsValue (l : Lot) (grades i : Nat) : DWord :=
  if h : i < 48 then (if i < 16 + grades then l.counters[i] else 0) else 0

/-- The totals records of a run, from record number `n` on. -/
def Device.produceTotals (d : Device) (grades : Nat) : Device :=
  (List.range (totalsCount grades)).foldl (fun d n =>
    d.produce (.lotTotals (5 * n) ((List.range 5).map (fun i => d.lot.totalsValue grades (5 * n + i))))) d

end Sys2Proof.Machine
end

