-- ==== Sys2Proof/Machine/Heads.lean ====
section
/-! DEFINITION. The Head Selector and the trigger slots of the Gauge Link Ports (03_gauge_links_and_heads.md): head
evaluation, station rules, relay switches, triggers. -/

namespace Sys2Proof.Machine

/-! ## Trigger slots (R53, R56, R58) -/

/-- The kind of a trigger. -/
def Purpose.kind : Purpose → TriggerKind
  | .part _ => .part
  | .reference => .reference

/-- Ending as late: the slot is emptied and the late mark takes the trigger's kind and tag (R56). -/
def Port.endLate (p : Port) : Port :=
  match p.slot with
  | some t => { p with slot := none, late := some { kind := t.purpose.kind, tag := t.tag } }
  | none => p

/-- Ends as late a REFERENCE trigger (R55). -/
def Port.endReference (p : Port) : Port :=
  match p.slot with
  | some t => if t.purpose = .reference then p.endLate else p
  | none => p

/-- Ends as late the PART trigger of a pocket (R8, R15). -/
def Port.endPart (pocket : Fin 96) (p : Port) : Port :=
  match p.slot with
  | some t => if t.purpose = .part pocket then p.endLate else p
  | none => p

/-- A port forgets its trigger and its late mark (R58). -/
def Port.forget (p : Port) : Port := { p with slot := none, late := none }

/-- Every port forgets (R58). -/
def Device.forgetTriggers (d : Device) : Device := { d with ports := mapVec Port.forget d.ports }

/-- The bytes of a trigger frame: kind PART 1 or REFERENCE 2, tag, range, N, and the XOR of the two words before it
(R187). -/
def triggerBytes (kind : TriggerKind) (tag range samples : Byte) : List Byte :=
  let kindByte : Byte := match kind with | .part => 1 | .reference => 2
  [kindByte, tag, range, samples, kindByte ^^^ range, tag ^^^ samples]

/-- A trigger is sent: its frame leaves on the link, and the slot records it as sent with its range and N (R53). -/
def Port.send (t : Trigger) (range samples : Byte) (p : Port) : Port :=
  { p with
    slot := some { t with sending := .sent range samples }
    tx := triggerBytes t.purpose.kind t.tag range samples }

/-- The head entry of the held copy, if a copy is held (R42). -/
def Device.headEntry (d : Device) (h : Fin 6) : Option HeadEntry :=
  match d.held with
  | some c => some c.heads[h]
  | none => none

/-- A REFERENCE trigger is placed in the empty slot of a head's port and sent at the event, with the reference range of
the held entry and N = 16 (R53, R55). -/
def Device.sendReference (d : Device) (h : Fin 6) : Device :=
  if (d.ports[h]).slot.isSome then d
  else
    let range := byteOf (match d.headEntry h with | some e => e.range | none => 0)
    d.updPort h (Port.send { purpose := .reference, tag := tagOf d.k, sending := .waiting 0 } range
      Config.referenceSamples)

/-- The PART trigger waiting in a port's slot is sent, with the range and N of the bank named in its pocket's record at
this moment (R53, R54). -/
def Device.sendPart (d : Device) (h : Fin 6) : Device :=
  match (d.ports[h]).slot with
  | some { purpose := .part p, tag := tag, sending := .waiting w } =>
    let bank := (d.track[p]).bankOr
    d.updPort h (Port.send { purpose := .part p, tag := tag, sending := .waiting w }
      ((bankRange d.mem bank).setWidth 8) ((bankSamples d.mem bank).setWidth 8))
  | _ => d

/-! ## Head events and head changes (R42, R44, R46, R47) -/

/-- A HEAD_EVENT record with the present state of the head's station, and the HEAD event (R44). -/
def Device.headEvent (d : Device) (h : Fin 6) (old new : HeadState) : Device :=
  d.produceWith .head (.headEvent h old new (d.stations[stationOf h]).state)

/-- The HEAD_EVENT of a station change that no head change accompanies: the head on the active side, old and new state
equal (R44). -/
def Device.stationEvent (d : Device) (st : Fin 3) : Device :=
  let h := headOf st (d.stations[st]).side
  d.headEvent h (d.heads[h]).state (d.heads[h]).state

/-- A head takes a state through its station, with its HEAD_EVENT (R48, R49, R50). -/
def Device.moveHead (d : Device) (h : Fin 6) (new : HeadState) : Device :=
  if (d.heads[h]).state = new then d
  else (d.updHead h (fun x => { x with state := new })).headEvent h (d.heads[h]).state new

/-- Whether a head matches its held entry: a copy is held, entry and station are fitted in it, and the last head serial
is present and equal (R42). -/
def Device.qualified (d : Device) (h : Fin 6) : Bool :=
  match d.held with
  | some c => (c.heads[h]).fitted && (c.geometry.stations[stationOf h]).isSome
      && decide ((d.ports[h]).serial = some (c.heads[h]).serial)
  | none => false

/-- The result of an evaluation of a head found in state `old` (R42). -/
def Device.evaluation (d : Device) (h : Fin 6) (old : HeadState) : HeadState :=
  if (d.ports[h]).link ≠ .locked then .offline
  else if old = .drifted then .drifted
  else if !d.qualified h then .unqualified
  else if old = .active then .active
  else .standby

/-- How a station takes a change of one of its heads from `old` to `new` (R46, R47); `headAt` gives the states of its
two heads after the change. -/
def Station.react (s : Station) (side : Side) (old new : HeadState) (headAt : Side → HeadState) : Station :=
  match s.state with
  | .disabled => s
  | .ready =>
    if side = s.side ∧ old = .active then
      if headAt side.other = .standby then { s with state := .settling, pending := some side.other }
      else { s with state := .failed, pending := none }
    else s
  | .settling =>
    if s.pending = some side ∧ old = .standby then
      if headAt s.side = .active then { s with state := .ready, pending := none }
      else if headAt side.other = .standby then { s with pending := some side.other }
      else { s with state := .failed, pending := none }
    else s
  | .failed =>
    if new = .standby then { s with state := .settling, pending := some side } else s

/-- A HEAD_SELECT waiting on a station whose pending switch has been cleared by R47 completes with ABORTED, its detail
the active side (R51, R169). -/
def Device.selectAborted (d : Device) (st : Fin 3) : Device :=
  match (d.stations[st]).pending with
  | some _ => d
  | none =>
    (d.updStation st (fun s => { s with select := none })).completeSome (d.stations[st]).select .aborted
      (BitVec.ofNat 32 (d.stations[st]).side.code)

/-- Whether a head state is in service (R56). -/
def HeadState.inService (s : HeadState) : Bool := decide (s = .standby) || decide (s = .active)

/-- A head changes state by an evaluation or a drift test (R42, R43): a head leaving STANDBY or ACTIVE has its trigger
ended as late, an OFFLINE head's window is emptied, its station takes the change, the HEAD_EVENT carries both, and
station 0 becoming FAILED requests a halt (R46). -/
def Device.changeHead (d : Device) (h : Fin 6) (new : HeadState) : Device :=
  let old := (d.heads[h]).state
  let st := stationOf h
  let d1 := if old.inService && !new.inService then d.updPort h Port.endLate else d
  let d2 := d1.updHead h (fun x => { x with state := new, window := if new = .offline then [] else x.window })
  let d3 := d2.updStation st (fun s => s.react (sideOf h) old new (fun sd => (d2.heads[headOf st sd]).state))
  let d4 := (d3.headEvent h old new).selectAborted st
  if st = 0 ∧ (d.stations[st]).state ≠ .failed ∧ (d3.stations[st]).state = .failed then d4.haltRequest .primaryFailed
  else d4

/-- A head is evaluated (R42): an evaluation that leaves its state as it was changes nothing. -/
def Device.evaluate (d : Device) (h : Fin 6) : Device :=
  let new := d.evaluation h (d.heads[h]).state
  if new = (d.heads[h]).state then d else d.changeHead h new

/-! ## Relay switches (R48, R49, R50) -/

/-- A pending switch is applied (R48): the side changes, the former ACTIVE head becomes STANDBY, the head on the new
side ACTIVE, the station READY, and a waiting HEAD_SELECT completes with OK. -/
def Device.applySwitch (d : Device) (st : Fin 3) : Device :=
  match (d.stations[st]).pending with
  | none => d
  | some side =>
    let former := headOf st (d.stations[st]).side
    let d1 := d.updStation st (fun s => { s with state := .ready, side := side, pending := none, select := none })
    let d2 := if (d.stations[st]).side ≠ side ∧ (d.heads[former]).state = .active then d1.moveHead former .standby else d1
    (d2.moveHead (headOf st side) .active).completeSome (d.stations[st]).select .ok (BitVec.ofNat 32 side.code)

/-- A fitted station leaves DISABLED at an accepted LOT_START (R49). -/
def Device.openStation (d : Device) (st : Fin 3) : Device :=
  if (d.geometry.stations[st]).isNone then d
  else
    let side := (d.stations[st]).side
    if (d.heads[headOf st side]).state = .standby then
      (d.updStation st (fun s => { s with state := .ready })).moveHead (headOf st side) .active
    else if (d.heads[headOf st side.other]).state = .standby then
      (d.updStation st (fun s => { s with state := .settling, pending := some side.other })).stationEvent st
    else (d.updStation st (fun s => { s with state := .failed })).stationEvent st

/-- A fitted station gives up its lot state at a lot's end (R50): the pending switch is applied at once, the ACTIVE head
becomes STANDBY, the station DISABLED, and a waiting HEAD_SELECT completes with OK. -/
def Device.closeStation (d : Device) (st : Fin 3) : Device :=
  let s := d.stations[st]
  if s.state = .disabled then d
  else
    let side := s.pending.getD s.side
    let d1 := d.updStation st (fun s => { s with state := .disabled, side := side, pending := none, select := none })
    let activeA := (d.heads[headOf st .sideA]).state = .active
    let activeB := (d.heads[headOf st .sideB]).state = .active
    let d2 :=
      if activeA then d1.moveHead (headOf st .sideA) .standby
      else if activeB then d1.moveHead (headOf st .sideB) .standby
      else d1.stationEvent st
    d2.completeSome s.select .ok (BitVec.ofNat 32 side.code)

/-- Every fitted station gives up its lot state (R50), in ascending order; the manual gives no order across stations
(log 33). -/
def Device.closeStations (d : Device) : Device := forEach 3 (fun st d => d.closeStation st) d

/-! ## The Head Selector at an index event (R48, R55) -/

/-- Every REFERENCE trigger still in a slot is ended as late (R55). -/
def Device.endReferences (d : Device) : Device := { d with ports := mapVec Port.endReference d.ports }

/-- Pending switches are applied (R48), in ascending order of station; the manual gives no order across stations
(log 9). -/
def Device.applySwitches (d : Device) : Device := forEach 3 (fun st d => d.applySwitch st) d

/-- Whether a head is sent a REFERENCE trigger at an index event in RUNNING or DRAINING: every STANDBY head of a fitted
station, and the ACTIVE head of station 0 while the record at S0 is EMPTY (R55). -/
def Device.referenceDue (d : Device) (h : Fin 6) : Bool :=
  match d.geometry.stations[stationOf h] with
  | none => false
  | some x =>
    decide ((d.heads[h]).state = .standby)
      || (decide (stationOf h = 0) && decide ((d.heads[h]).state = .active)
        && decide ((d.track[pocketAt d.geometry.p d.phi x]).state = .empty))

/-- REFERENCE triggers are sent (R55). -/
def Device.sendReferences (d : Device) : Device :=
  forEach 6 (fun h d => if d.referenceDue h then d.sendReference h else d) d

/-- The Head Selector's work at an index event in RUNNING or DRAINING (R55). -/
def Device.selectorWork (d : Device) : Device := d.endReferences.applySwitches.sendReferences

/-- The Head Selector's work at an index event in HALTED: references ended, switches applied, none sent (R16, R55). -/
def Device.selectorHaltedWork (d : Device) : Device := d.endReferences.applySwitches

/-! ## The end of a lot by LOT_END (R33) -/

/-- LOT_EVENT(end) with the LOT event, followed in unbroken order by the totals run (R33, R190). -/
def Device.produceLotEnd (d : Device) (grades : Nat) : Device :=
  (d.produceWith .lot (.lotEnd grades (totalsCount grades) d.lot.lotId)).produceTotals grades

/-- The completion of a LOT_END (R33): stations give up their lot state (R50), ports forget (R58), LOT_EVENT(end) and
totals, flush, banks none, IDLE with its forcing (R119), the cell completes. -/
def Device.completeLotEnd (d : Device) (cell : Fin 16) : Device :=
  let d1 := d.closeStations.forgetTriggers
  let d2 := (d1.produceLotEnd d1.totalsGrades).flush
  let d3 := d2.updLot (fun l => { l with active := none, load := none, state := .idle, cause := none, ret := none, endCell := none })
  d3.cutFires.complete cell .ok 0

/-- The test of a pending LOT_END: it completes when the lot is DRAINING and every record is EMPTY (R33). -/
def Device.lotEndTest (d : Device) : Device :=
  match d.lot.endCell with
  | some cell => if d.lot.state = .draining ∧ d.trackEmpty then d.completeLotEnd cell else d
  | none => d

end Sys2Proof.Machine
end

