-- ==== Sys2Proof/Machine/Validation.lean ====
section
/-! DEFINITION. Validation of the machine table, of a recipe bank and of one fire profile (R135 to R140). A check is the
byte offset it is charged to and whether it passes; the first that fails is reported. -/

namespace Sys2Proof.Machine

/-- A check of R135, R136, R138 or R139: the offset it is charged to, and whether it passes. -/
abbrev Check := Nat × Bool

/-- The offset of the first check that fails (R140). -/
def firstFailure (checks : List Check) : Option Nat := (checks.find? (fun c => !c.2)).map (·.1)

/-- A value lies in `lo..hi`. -/
def within (x lo hi : Nat) : Bool := decide (lo ≤ x) && decide (x ≤ hi)

/-- A signed value lies in `lo..hi`. -/
def withinInt (x lo hi : Int) : Bool := decide (lo ≤ x) && decide (x ≤ hi)

/-! ## The machine table (R135, R136) -/

/-- The checks of one fire profile (section 6.4, R135). -/
def profileChecks (m : Memory) (k : Fin 25) : List Check :=
  let o := profileOffset k
  [(o, within (tableWord m o) 0 20000), (o + 2, within (tableWord m (o + 2)) 100 10000),
    (o + 4, within (tableWord m (o + 4)) 0 20000), (o + 6, within (tableWord m (o + 6)) 1 16),
    (o + 8, [25, 50, 100, 200].contains (tableWord m (o + 8)))]

/-- The profile checks of output `k`, made if its gate is fitted, and always for the sweep. -/
def fittedProfileChecks (m : Memory) (k : Fin 25) : List Check :=
  match gateOf k with
  | some j => if (tableGate m j).isSome then profileChecks m k else []
  | none => profileChecks m k

/-- The checks of one head entry (R135). -/
def headChecks (m : Memory) (h : Fin 6) : List Check :=
  let o := headOffset h
  (o, within (tableWord m o) 0 1) ::
    (if tableWord m o = 1 then
      [(o + 0x02, within (tableWord m (o + 0x02)) 0 7)]
      ++ (List.range 8).map (fun r =>
          (o + 0x08 + 4 * r, within (tableDWord m (o + 0x08 + 4 * r)).toNat 8388608 33554432))
      ++ [(o + 0x28, within (tableDWord m (o + 0x28)).toNat 1000 8000000),
        (o + 0x2C, within (tableWord m (o + 0x2C)) 10 50000)]
    else [])

/-- The first pass over the machine table, in ascending order of byte offset (R135, R140). -/
def tableFieldChecks (m : Memory) : List Check :=
  [(0x000, within (tableWord m 0x000) 32 96)]
  ++ (List.finRange 3).map (fun st => (0x002 + 2 * st.val, within (tableWord m (0x002 + 2 * st.val)) 0 1))
  ++ (List.finRange 3).map (fun st => (0x008 + 2 * st.val,
      match tableStation m st with | some x => within x 1 95 | none => true))
  ++ (List.finRange 24).map (fun j => (0x010 + 2 * j.val,
      match tableGate m j with | some x => within x 1 95 | none => true))
  ++ [(0x040, within (tableWord m 0x040) 1 95), (0x042, within (tableWord m 0x042) 1 95),
    (0x044, [250, 500, 1000, 2000].contains (tableWord m 0x044)), (0x046, within (tableWord m 0x046) 0 5000),
    (0x048, within (tableWord m 0x048) 0 20000)]
  ++ (List.finRange 25).flatMap (fittedProfileChecks m)
  ++ (List.finRange 6).flatMap (headChecks m)

/-- A condition on a position, if there is one. -/
def ifFitted (x : Option Nat) (f : Nat → Bool) : Bool :=
  match x with
  | some y => f y
  | none => true

/-- The whole-table checks, in the order of R136. -/
def tableWholeChecks (g : Geometry) : List Check :=
  let s0 := g.stations[(0 : Fin 3)]
  let s1 := g.stations[(1 : Fin 3)]
  let s2 := g.stations[(2 : Fin 3)]
  [(0x002, s0.isSome)]
  ++ (List.finRange 3).map (fun st => (0x008 + 2 * st.val, ifFitted g.stations[st] (fun x => decide (x + 1 ≤ g.p))))
  ++ [(0x00A, ifFitted s1 (fun x => decide (s0.getD 0 < x))),
    (0x00C, ifFitted s2 (fun x => decide (max (s0.getD 0) (s1.getD 0) < x)))]
  ++ (List.finRange 24).map (fun j => (0x010 + 2 * j.val, ifFitted g.gates[j] (fun x => decide (g.sLast < x))))
  ++ (List.finRange 24).map (fun j => (0x010 + 2 * j.val, ifFitted g.gates[j] (fun x => decide (x + 3 ≤ g.w))))
  ++ (List.finRange 24).map (fun j => (0x010 + 2 * j.val,
      g.gates[j].isNone || (List.finRange 24).all (fun i => !(decide (i < j) && decide (g.gates[i] = g.gates[j])))))
  ++ [(0x040, decide (g.sLast < g.w)), (0x042, decide (g.w < g.c) && decide (g.c + 1 ≤ g.p))]

/-- Validation of the machine table (R140): the offset of the first failing check. -/
def validateTable (m : Memory) : Option Nat :=
  firstFailure (tableFieldChecks m ++ tableWholeChecks (readGeometry m))

/-- Validation of the profile of a TEST_FIRE's gate (R117). -/
def validateProfile (m : Memory) (j : Fin 24) : Option Nat := firstFailure (profileChecks m (outputOf j))

/-! ## A recipe bank (R138, R139) -/

/-- The field checks of one grade. -/
def gradeChecks (m : Memory) (b : Bank) (g : Fin 32) : List Check :=
  let o := gradeOffset g
  [(o, withinInt (gradeLow m b g) (-999999) 999999), (o + 4, withinInt (gradeHigh m b g) (-999999) 999999),
    (o + 8, within (gradeGuard m b g) 0 100000), (o + 0xC, within (gradeRetest m b g).toNat 0 1),
    (o + 0xD, within (gradeTarget m b g).toNat 0 23),
    (o + 0xE, decide (gradeAlternate m b g = 0xFF) || within (gradeAlternate m b g).toNat 0 23)]

/-- The first pass over a bank, in ascending order of byte offset (R138, R140). -/
def bankFieldChecks (m : Memory) (b : Bank) : List Check :=
  [(0x000, within (bankNominal m b) 1000 8000000), (0x004, within (bankRange m b).toNat 0 7),
    (0x006, within (bankSamples m b).toNat 1 16), (0x008, withinInt (bankAlpha m b) (-2000) 2000),
    (0x00A, decide (bankWord m b 0x00A = 0x7FFF) || withinInt (bankWord m b 0x00A).toInt (-640) 2400),
    (0x00C, within (bankMaxRetests m b) 0 2), (0x00E, within (bankGradeCount m b) 1 32)]
  ++ (List.range 5).map (fun i => (0x010 + 2 * i,
      decide (bankMapWord m b i = 0xFFFF) || within (bankMapWord m b i).toNat 0 23))
  ++ (bankGrades m b).flatMap (gradeChecks m b)

/-- Gate number `x` is fitted and has a capacity above 0 in the bank. -/
def gateUsable (m : Memory) (b : Bank) (g : Geometry) (x : Nat) : Bool :=
  match indexOf 24 x with
  | some j => g.gates[j].isSome && decide (0 < (bankCapacity m b j).toNat)
  | none => false

/-- The position of gate number `x` is greater than that of gate number `y`. -/
def gateBeyond (g : Geometry) (y x : Nat) : Bool :=
  match indexOf 24 y, indexOf 24 x with
  | some j, some a => g.liesAfter j a
  | _, _ => false

/-- The checks of a bank against the geometry and the gates, in the order of R139. -/
def bankWholeChecks (m : Memory) (b : Bank) (g : Geometry) (gates : Vector Gate 24) : List Check :=
  (bankGrades m b).map (fun i => (gradeOffset i + 4, decide (gradeLow m b i ≤ gradeHigh m b i)))
  ++ (bankGrades m b).map (fun i => (gradeOffset i + 0xD, gateUsable m b g (gradeTarget m b i).toNat))
  ++ (bankGrades m b).map (fun i => (gradeOffset i + 0xE,
      decide (gradeAlternate m b i = 0xFF) ||
        (gateUsable m b g (gradeAlternate m b i).toNat
          && gateBeyond g (gradeTarget m b i).toNat (gradeAlternate m b i).toNat)))
  ++ (List.range 5).map (fun i => (0x010 + 2 * i,
      decide (bankMapWord m b i = 0xFFFF) || gateUsable m b g (bankMapWord m b i).toNat))
  ++ (List.finRange 24).map (fun j => (0x020 + 2 * j.val,
      let used := gates[j].tally.toNat + gates[j].pending
      let capacity := (bankCapacity m b j).toNat
      if capacity = 0 then decide (used = 0) else decide (used ≤ capacity)))

/-- Validation of a bank against a geometry and the gates (R139, R140): the offset of the first failing check. -/
def validateBank (m : Memory) (b : Bank) (g : Geometry) (gates : Vector Gate 24) : Option Nat :=
  firstFailure (bankFieldChecks m b ++ bankWholeChecks m b g gates)

end Sys2Proof.Machine
end

