-- ==== Sys2Proof/Machine/GateCommands.lean ====
section
/-! DEFINITION. The commands and events of the gates (06_gates_valves_and_bins.md): GATE_MODE, BIN_SWAP_BEGIN,
BIN_SWAP_END, TEST_FIRE, the drop edge, and the phase events of the valve outputs. -/

namespace Sys2Proof.Machine

/-- A gate parameter outside 0..23 is refused, naming the parameter at offset 0 (R97, R115, R116, R117, R167). -/
def Device.withGate (d : Device) (n : Fin 16) (gate : Word) (f : Fin 24 → Device) : Device :=
  match indexOf 24 gate.toNat with
  | some j => f j
  | none => d.refuse n .refusedInvalid (invalidDetail .parameters 0)

/-- GATE_MODE (R97): the detail is the mode before. -/
def Device.gateMode (d : Device) (n : Fin 16) (gate mode : Word) : Device :=
  d.withGate n gate fun j =>
    match modeOfCode mode with
    | none => d.refuse n .refusedInvalid (invalidDetail .parameters 2)
    | some m =>
      (d.updGate j (fun g => { g with mode := m })).complete n .ok (BitVec.ofNat 32 (d.gates[j]).mode.code)

/-- BIN_SWAP_BEGIN (R115). -/
def Device.binSwapBegin (d : Device) (n : Fin 16) (gate : Word) : Device :=
  d.withGate n gate fun j =>
    match (d.gates[j]).swap with
    | some holder => d.refuse n .refusedBusy (BitVec.ofNat 32 holder.val)
    | none =>
      if (d.gates[j]).offline then d.refuse n .refusedState 0
      else (d.updGate j (fun g => { g with offline := true, swap := some n })).swapTest j

/-- BIN_SWAP_END (R116): swap end record with the tally before, tally 0, gate back, full flag re-evaluated. -/
def Device.binSwapEnd (d : Device) (n : Fin 16) (gate : Word) : Device :=
  d.withGate n gate fun j =>
    let g := d.gates[j]
    if g.offline ∧ g.swap.isNone then
      (((d.binEvent j .swapEnd).updGate j (fun g => { g with tally := 0, offline := false })).reevaluate j).complete n
        .ok (g.tally.setWidth 32)
    else d.refuse n .refusedState 0

/-- TEST_FIRE (R117): checked in the order of the rule; the profile is read at the take, the edge count starts at 0, and
the output of a gate under test is not forced off by IDLE (R113). -/
def Device.testFire (d : Device) (n : Fin 16) (gate : Word) : Device :=
  d.withGate n gate fun j =>
    if d.lot.state ≠ .idle then d.refuse n .refusedState 0
    else if !d.sensor.guardClosed then d.refuse n .refusedState 0
    else
      match (d.gates[j]).test with
      | some t => d.refuse n .refusedBusy (BitVec.ofNat 32 t.cell.val)
      | none =>
        match validateProfile d.mem j with
        | some o => d.refuse n .refusedInvalid (invalidDetail .machineTable o)
        | none =>
          let profile := readProfile d.mem (outputOf j)
          let started : TestFire := { phase := .profile (profile.start false), edges := 0, cell := n, profile := profile }
          d.updGate j (fun g => { g with test := some started })

/-- The end of a test fire's observation (R118). -/
def Device.observeEnd (d : Device) (j : Fin 24) : Device :=
  match (d.gates[j]).test with
  | some t =>
    if t.phase = .observe then (d.updGate j (fun g => { g with test := none })).complete t.cell .ok t.detail else d
  | none => d

/-- A drop edge confirms the oldest window (R111): window removed, tally + 1, a fire of that window still in DELAY ended,
the pocket retired with this gate, then what follows a lowered pending and a retirement (log 20). -/
def Device.confirmDrop (d : Device) (j : Fin 24) (w : Window) (rest : List Window) : Device :=
  let d1 := d.updGate j (fun g =>
    { g with
      windows := rest
      tally := g.tally + 1
      fire := match g.fire with
        | some f => if f.pocket = w.pocket ∧ f.k = w.k ∧ f.run.phase = .delay then none else some f
        | none => none })
  let d2 := if (d1.track[w.pocket]).state = .fired then d1.retireTested w.pocket (some j) else d1
  (d2.pendingLowered j).lotEndTest

/-- A drop edge (R111): counted by a test fire, confirms the oldest window, or is stray. -/
def Device.dropEdge (d : Device) (j : Fin 24) : Device :=
  match (d.gates[j]).test, (d.gates[j]).windows with
  | some t, _ => d.updGate j (fun g => { g with test := some { t with edges := satInc t.edges } })
  | none, w :: rest => d.confirmDrop j w rest
  | none, [] => d.updGate j (fun g => { g with stray := satInc g.stray })

/-! ## The meanings -/

/-- DROP_EDGE (R111): the line has qualified (R122), and the Gate Controller takes the edge. -/
def execDropEdge (gate : Fin 24) (s : State) : Host.Outcome State Fault Refusal :=
  s.event (fun d => (d.registerDrop gate).dropEdge gate)

/-- FIRE_DELAY_EXPIRY (R107). -/
def execFireDelayExpiry (output : Fin 25) (s : State) : Host.Outcome State Fault Refusal :=
  s.event (fun d => d.stepRun output Run.endDelay)

/-- HIT_TIME_EXPIRY (R107). -/
def execHitTimeExpiry (output : Fin 25) (s : State) : Host.Outcome State Fault Refusal :=
  s.event (fun d => d.stepRun output Run.endHit)

/-- HOLD_CARRIER_PERIOD (R107). -/
def execHoldCarrierPeriod (output : Fin 25) (edge : CarrierEdge) (s : State) : Host.Outcome State Fault Refusal :=
  s.event (fun d => d.stepRun output (Run.carrier edge))

/-- HOLD_TIME_EXPIRY (R107). -/
def execHoldTimeExpiry (output : Fin 25) (s : State) : Host.Outcome State Fault Refusal :=
  s.event (fun d => d.stepRun output Run.endHold)

/-- TEST_FIRE_OBSERVE_END (R118). -/
def execTestFireObserveEnd (gate : Fin 24) (s : State) : Host.Outcome State Fault Refusal :=
  s.event (fun d => d.observeEnd gate)

/-- BIN_SWAP_BEGIN, taken from a cell (R115). -/
def execBinSwapBegin (cell : Fin 16) (gate : Word) (s : State) : Host.Outcome State Fault Refusal :=
  s.event (fun d => d.take cell (fun d => d.binSwapBegin cell gate))

/-- BIN_SWAP_BEGIN_COMPLETION (R115). -/
def execBinSwapBeginCompletion (gate : Fin 24) (s : State) : Host.Outcome State Fault Refusal :=
  s.event (fun d => d.swapTest gate)

/-- BIN_SWAP_END, taken from a cell (R116). -/
def execBinSwapEnd (cell : Fin 16) (gate : Word) (s : State) : Host.Outcome State Fault Refusal :=
  s.event (fun d => d.take cell (fun d => d.binSwapEnd cell gate))

/-- GATE_MODE, taken from a cell (R97). -/
def execGateMode (cell : Fin 16) (gate mode : Word) (s : State) : Host.Outcome State Fault Refusal :=
  s.event (fun d => d.take cell (fun d => d.gateMode cell gate mode))

/-- TEST_FIRE, taken from a cell (R117). -/
def execTestFire (cell : Fin 16) (gate : Word) (s : State) : Host.Outcome State Fault Refusal :=
  s.event (fun d => d.take cell (fun d => d.testFire cell gate))

end Sys2Proof.Machine
end

