-- ==== Sys2Proof/Machine/HeadCommands.lean ====
section
/-! DEFINITION. The commands of the Head Selector (03_gauge_links_and_heads.md): HEAD_SELECT and its completion,
HEAD_REQUALIFY. -/

namespace Sys2Proof.Machine

/-! ## HEAD_SELECT (R51) -/

/-- A HEAD_SELECT whose named head is STANDBY in an open lot (R51): a READY station becomes SETTLING toward the side, a
SETTLING one is turned toward it; the cell waits for the switch. Another station state does not occur (log 21). -/
def Device.selectInLot (d : Device) (n : Fin 16) (st : Fin 3) (side : Side) : Device :=
  match (d.stations[st]).state with
  | .ready =>
    (d.updStation st (fun s => { s with state := .settling, pending := some side, select := some n })).stationEvent st
  | .settling => d.updStation st (fun s => { s with pending := some side, select := some n })
  | .disabled => d.refuse n .refusedState 0
  | .failed => d.refuse n .refusedState 0

/-- A HEAD_SELECT with its parameters in range, by the conditions of R51 in their order. -/
def Device.selectHead (d : Device) (n : Fin 16) (st : Fin 3) (side : Side) : Device :=
  match (d.stations[st]).select with
  | some holder => d.refuse n .refusedBusy (BitVec.ofNat 32 holder.val)
  | none =>
    match (d.heads[headOf st side]).state with
    | .active => d.complete n .ok (BitVec.ofNat 32 side.code)
    | .standby =>
      if d.lot.state = .idle then
        (d.updStation st (fun s => { s with side := side })).complete n .ok (BitVec.ofNat 32 side.code)
      else d.selectInLot n st side
    | .offline => d.refuse n .refusedState 0
    | .unqualified => d.refuse n .refusedState 0
    | .drifted => d.refuse n .refusedState 0

/-- HEAD_SELECT: station, then side, is checked first (R51, R167). -/
def Device.headSelect (d : Device) (n : Fin 16) (station side : Word) : Device :=
  match indexOf 3 station.toNat, sideOfCode side with
  | none, _ => d.refuse n .refusedInvalid (invalidDetail .parameters 0)
  | some _, none => d.refuse n .refusedInvalid (invalidDetail .parameters 2)
  | some st, some sd => d.selectHead n st sd

/-- The completion of a HEAD_SELECT that waits on a station (R48, R51, R169): with its switch applied it completes with
OK, with the pending switch cleared with ABORTED. No HEAD_SELECT waiting: nothing (log 5). -/
def Device.selectCompletion (d : Device) (st : Fin 3) : Device :=
  match (d.stations[st]).select with
  | none => d
  | some _ => if (d.stations[st]).pending.isSome then d.applySwitch st else d.selectAborted st

/-! ## HEAD_REQUALIFY (R52) -/

/-- A head is requalified: its drift window is emptied, and a DRIFTED head is evaluated as if it were not (R52). -/
def Device.requalify (d : Device) (h : Fin 6) : Device :=
  let d1 := d.updHead h (fun x => { x with window := [] })
  if (d.heads[h]).state = .drifted then d1.changeHead h (d1.evaluation h .unqualified) else d1

/-- HEAD_REQUALIFY (R52): the detail is the head's state after the command. -/
def Device.headRequalify (d : Device) (n : Fin 16) (head : Word) : Device :=
  match indexOf 6 head.toNat with
  | none => d.refuse n .refusedInvalid (invalidDetail .parameters 0)
  | some h => (d.requalify h).complete n .ok (BitVec.ofNat 32 ((d.requalify h).heads[h]).state.code)

/-! ## The meanings -/

/-- HEAD_SELECT, taken from a cell (R51). -/
def execHeadSelect (cell : Fin 16) (station side : Word) (s : State) : Host.Outcome State Fault Refusal :=
  s.event (fun d => d.take cell (fun d => d.headSelect cell station side))

/-- HEAD_SELECT_COMPLETION (R48, R51). -/
def execHeadSelectCompletion (station : Fin 3) (s : State) : Host.Outcome State Fault Refusal :=
  s.event (fun d => d.selectCompletion station)

/-- HEAD_REQUALIFY, taken from a cell (R52). -/
def execHeadRequalify (cell : Fin 16) (head : Word) (s : State) : Host.Outcome State Fault Refusal :=
  s.event (fun d => d.take cell (fun d => d.headRequalify cell head))

end Sys2Proof.Machine
end

