-- ==== Sys2Proof/Machine/LotCommands.lean ====
section
/-! DEFINITION. The commands that act on a lot, as the take of a cell executes them (02_lot_control.md,
08_machine_table_and_recipes.md): LOT_START, LOT_END, LOT_ABORT, RESUME, BANK_SWITCH. Each takes the cell it answers. -/

namespace Sys2Proof.Machine

/-! ## LOT_START (R25, R26, R27, R49, R119) -/

/-- The facts of a lot just opened (R23). -/
def openedLot (b : Bank) (lotId firstSerial : DWord) : Lot where
  state := .running
  cause := none
  ret := none
  lotId := lotId
  nextSerial := firstSerial
  active := some b
  load := some b
  counters := Vector.replicate 48 0
  endCell := none
  switch := none

/-- The state a lot opens on: copies and tick interval from the machine table, Φ and K 0, track EMPTY, counters 0, banks,
lot id and serial (R26, R131, R137). -/
def Device.resetForLot (d : Device) (b : Bank) (lotId firstSerial : DWord) : Device :=
  { d with
    held := some (readMachineCopy d.mem)
    timebase := { d.timebase with interval := tableWord d.mem 0x044 }
    phi := 0
    k := 0
    track := Vector.replicate 96 Pocket.empty
    lot := openedLot b lotId firstSerial }

/-- The Head Selector at an accepted LOT_START (R49): drift windows emptied and temperatures cleared (R43, R69), all six
heads evaluated against the copy, fitted stations leave DISABLED. -/
def Device.openHeads (d : Device) : Device :=
  let d1 : Device := { d with heads := mapVec (fun h => { h with window := [], temperature := none }) d.heads }
  forEach 3 (fun st d => d.openStation st) (forEach 6 (fun h d => d.evaluate h) d1)

/-- The halt conditions tested at the end of an accepted LOT_START, in the order of R27. -/
def Device.startHaltCause (d : Device) : Option HaltCause :=
  if (d.stations[(0 : Fin 3)]).state = .failed then some .primaryFailed
  else if !d.sensor.guardClosed then some .guardOpen
  else if d.sensor.reported[(24 : Fin 25)] then some .sweepFull
  else none

/-- A lot that meets a halt condition at its start opens HALTED (R27). -/
def Device.haltAtStart (d : Device) : Device :=
  match d.startHaltCause with
  | some c => d.haltRequest c
  | none => d

/-- The effects of an accepted LOT_START, its records in the order of R26. -/
def Device.openLot (d : Device) (b : Bank) (lotId firstSerial : DWord) : Device :=
  let d1 := d.abortTests.resetForLot b lotId firstSerial
  let d2 := d1.produceWith .lot (.lotStart b lotId firstSerial)
  ((d2.takeCapacities b).openHeads).haltAtStart

/-- What refuses a LOT_START, in the order of R25. -/
def Device.lotStartRefusal (d : Device) (bank : Word) : Option (ResultCode × DWord) :=
  if d.lot.state ≠ .idle then some (.refusedState, 0)
  else
    match bankOfCode bank with
    | none => some (.refusedInvalid, invalidDetail .parameters 0)
    | some b =>
      match validateTable d.mem with
      | some o => some (.refusedInvalid, invalidDetail .machineTable o)
      | none =>
        match validateBank d.mem b (readGeometry d.mem) d.gates with
        | some o => some (.refusedInvalid, invalidDetail (regionOf b) o)
        | none => none

/-- LOT_START (R25, R26). -/
def Device.lotStart (d : Device) (n : Fin 16) (bank : Word) (lotId firstSerial : DWord) : Device :=
  match d.lotStartRefusal bank with
  | some r => d.refuse n r.1 r.2
  | none =>
    match bankOfCode bank with
    | some b => (d.openLot b lotId firstSerial).complete n .ok 0
    | none => d

/-! ## LOT_END (R32, R33) -/

/-- LOT_END (R32): accepted in RUNNING and in HALTED returning to RUNNING; the cell stays TAKEN until R33 completes it. -/
def Device.lotEnd (d : Device) (n : Fin 16) : Device :=
  if d.lot.state = .running then
    (d.updLot (fun l => { l with state := .draining, endCell := some n })).lotEndTest
  else if d.lot.state = .halted ∧ d.lot.ret = some .running then
    d.updLot (fun l => { l with ret := some .draining, endCell := some n })
  else d.refuse n .refusedState 0

/-! ## LOT_ABORT (R34, R21, R50, R58, R119, R149) -/

/-- The retirement of one record by an abort (R21). -/
def Device.abortPocket (p : Fin 96) (d : Device) : Device :=
  if (d.track[p]).state = .empty then d
  else (d.updPocket p (fun r => { r with outcome := some .aborted })).retire p none

/-- Step 1: fires cut, windows discarded, triggers forgotten. -/
def Device.abortFires (d : Device) : Device := d.cutFires.discardWindows.forgetTriggers

/-- Step 3: a pending BANK_SWITCH and a pending LOT_END complete with ABORTED, a BIN_SWAP_BEGIN in progress with OK.
The gates are taken in ascending order; the manual gives no order across gates (log 33). -/
def Device.abortPending (references : Nat) (d : Device) : Device :=
  let d1 := match d.lot.switch with
    | some sw =>
      (d.updLot (fun l => { l with switch := none })).complete sw.cell .aborted (BitVec.ofNat 32 references)
    | none => d
  let d2 := (d1.updLot (fun l => { l with endCell := none })).completeSome d1.lot.endCell .aborted 0
  forEach 24 (fun j d => d.swapTest j) d2

/-- Step 4: LOT_EVENT(abort), the LOT event and the totals run (R190). -/
def Device.produceLotAbort (state : LotState) (cause : Option HaltCause) (d : Device) : Device :=
  let grades := d.totalsGrades
  (d.produceWith .lot (.lotAbort grades (totalsCount grades) state d.lot.lotId cause)).produceTotals grades

/-- LOT_ABORT, taken whole in the order of R34. -/
def Device.abortLot (d : Device) (n : Fin 16) : Device :=
  let references := match d.lot.switch with | some sw => d.refCount sw.old | none => 0
  let cause := if d.lot.state = .halted then d.lot.cause else none
  let d1 := forEach 96 Device.abortPocket d.abortFires
  let d2 := (d1.abortPending references).closeStations
  let d3 := (d2.produceLotAbort d.lot.state cause).flush
  let d4 := d3.updLot (fun l => { l with active := none, load := none, state := .idle, cause := none, ret := none })
  d4.complete n .ok 0

/-- LOT_ABORT (R34). -/
def Device.lotAbort (d : Device) (n : Fin 16) : Device :=
  if d.lot.state = .idle then d.refuse n .refusedState 0 else d.abortLot n

/-! ## RESUME (R31) -/

/-- The detail of a RESUME in HALTED: one flag per halt condition found (R31, R188). -/
def Device.resumeFlags (d : Device) (clearSense : Bool) : DWord :=
  BitVec.ofNat 32 (bitIf (!d.sensor.guardClosed) 1 + bitIf d.sensor.reported[(24 : Fin 25)] 2
    + bitIf (decide ((d.stations[(0 : Fin 3)]).state = .failed)) 4
    + bitIf (decide (d.lot.cause = some .jam) && clearSense) 8)

/-- An accepted RESUME: the lot enters its return state (R31); into DRAINING, a pending LOT_END is tested (R33). -/
def Device.leaveHalt (d : Device) (n : Fin 16) (ret : ReturnState) : Device :=
  ((((d.updLot (fun l => { l with state := ret.lotState, cause := none, ret := none })).produceWith .lot
    (.lotResume ret.lotState))).complete n .ok 0).lotEndTest

/-- RESUME (R31). -/
def Device.resume (d : Device) (n : Fin 16) (clearSense : Bool) : Device :=
  if d.lot.state ≠ .halted then d.refuse n .refusedState 0
  else if d.resumeFlags clearSense ≠ 0 then d.refuse n .refusedState (d.resumeFlags clearSense)
  else d.leaveHalt n (d.lot.ret.getD .running)

/-! ## BANK_SWITCH (R145 to R148) -/

/-- A record moved by an IMMEDIATE switch: LOADED, MEASURING or RETEST_WAIT, naming the old bank (R147). -/
def Pocket.moveBank (old new : Bank) (r : Pocket) : Pocket :=
  if (r.state = .loaded ∨ r.state = .measuring ∨ r.state = .retestWait) ∧ r.bank = some old then
    { r with bank := some new }
  else r

/-- The effects of an accepted BANK_SWITCH, in the order of R146. -/
def Device.switchBanks (d : Device) (n : Fin 16) (old new : Bank) (immediate : Bool) : Device :=
  let d1 := d.updLot (fun l => { l with active := some new, load := some new })
  let d2 := if immediate then { d1 with track := mapVec (Pocket.moveBank old new) d1.track } else d1
  let d3 := d2.takeCapacities new
  let pending : PendingSwitch :=
    { old := old, new := new, immediate := immediate, references := d3.refCount old, cell := n }
  (d3.updLot (fun l => { l with switch := some pending })).switchTest

/-- What refuses a BANK_SWITCH, in the order of R145. -/
def Device.bankSwitchRefusal (d : Device) (bank mode : Word) : Option (ResultCode × DWord) :=
  match bankOfCode bank, switchModeOfCode mode with
  | none, _ => some (.refusedInvalid, invalidDetail .parameters 0)
  | some _, none => some (.refusedInvalid, invalidDetail .parameters 2)
  | some b, some _ =>
    if d.lot.state ≠ .running ∧ d.lot.state ≠ .draining then some (.refusedState, 0)
    else
      match d.lot.switch with
      | some sw => some (.refusedBusy, BitVec.ofNat 32 sw.cell.val)
      | none =>
        if d.lot.active = some b then some (.refusedState, 0)
        else
          match validateBank d.mem b d.geometry d.gates with
          | some o => some (.refusedInvalid, invalidDetail (regionOf b) o)
          | none => none

/-- BANK_SWITCH (R145, R146). The old bank is the active bank before the take; an open lot has one (log 16). -/
def Device.bankSwitch (d : Device) (n : Fin 16) (bank mode : Word) : Device :=
  match d.bankSwitchRefusal bank mode with
  | some r => d.refuse n r.1 r.2
  | none =>
    match bankOfCode bank, switchModeOfCode mode with
    | some b, some immediate => d.switchBanks n (d.lot.active.getD .bankA) b immediate
    | _, _ => d

/-! ## The meanings -/

/-- LOT_START, taken from a cell (R25, R164). -/
def execLotStart (cell : Fin 16) (bank : Word) (lotId firstSerial : DWord) (s : State) :
    Host.Outcome State Fault Refusal :=
  s.event (fun d => d.take cell (fun d => d.lotStart cell bank lotId firstSerial))

/-- LOT_END, taken from a cell (R32). -/
def execLotEnd (cell : Fin 16) (s : State) : Host.Outcome State Fault Refusal :=
  s.event (fun d => d.take cell (fun d => d.lotEnd cell))

/-- LOT_END_COMPLETION (R33). -/
def execLotEndCompletion (s : State) : Host.Outcome State Fault Refusal := s.event (fun d => d.lotEndTest)

/-- LOT_ABORT, taken from a cell (R34). -/
def execLotAbort (cell : Fin 16) (s : State) : Host.Outcome State Fault Refusal :=
  s.event (fun d => d.take cell (fun d => d.lotAbort cell))

/-- RESUME, taken from a cell, with the level of CLEAR_SENSE at the take (R31). -/
def execResume (cell : Fin 16) (clearSense : Bool) (s : State) : Host.Outcome State Fault Refusal :=
  s.event (fun d => d.take cell (fun d => d.resume cell clearSense))

/-- BANK_SWITCH, taken from a cell (R145). -/
def execBankSwitch (cell : Fin 16) (bank mode : Word) (s : State) : Host.Outcome State Fault Refusal :=
  s.event (fun d => d.take cell (fun d => d.bankSwitch cell bank mode))

/-- BANK_SWITCH_COMPLETION (R148). -/
def execBankSwitchCompletion (s : State) : Host.Outcome State Fault Refusal := s.event (fun d => d.switchTest)

end Sys2Proof.Machine
end

