-- ==== Sys2Proof/Machine/Signals.lean ====
section
/-! DEFINITION. The Sensor Scanner and the base tick (07_handler_signals_and_timebase.md), and the requests for a slate
scan (R165). -/

namespace Sys2Proof.Machine

/-- A scan from the cell after the cursor (R166). -/
def Slate.startScan (s : Slate) : Slate := { s with scan := some { next := s.cursor + 1, left := 16 } }

/-- A scan request starts a scan, or sets the request flag while a scan is in progress (R165). -/
def Slate.requestScan (s : Slate) : Slate :=
  match s.scan with
  | some _ => { s with request := true }
  | none => s.startScan

/-- The filtered GUARD state changes (R125): on opening, forcing and a GUARD_OPEN halt request; on closing, the forcing
that GUARD imposed is lifted. A state that is already held is no change. -/
def Device.guardChange (d : Device) (closed : Bool) : Device :=
  if d.sensor.guardClosed = closed then d
  else
    let d1 : Device := { d with sensor := { d.sensor with guardClosed := closed, dwell := false } }
    if closed then d1 else d1.guardForcing.haltRequest .guardOpen

/-- The GUARD sample of a base tick (R124). -/
def Device.guardSample (d : Device) (level : Bool) : Device :=
  if level = d.sensor.guardClosed then { d with sensor := { d.sensor with dwell := false } }
  else if d.sensor.dwell then d.guardChange level
  else { d with sensor := { d.sensor with dwell := true } }

/-- The CAL_PROTECT sample of a base tick (R126). -/
def Device.protectSample (d : Device) (level : Bool) : Device := { d with sensor := { d.sensor with protect := level } }

/-- The reported state of a level switch changes (R129): a gate's level-full, or the sweep tube's, whose change to full
requests a SWEEP_FULL halt. A state that is already reported is no change. -/
def Device.levelChange (d : Device) (k : Fin 25) (full : Bool) : Device :=
  if d.sensor.reported[k] = full then d
  else
    let d1 : Device := { d with sensor :=
      { d.sensor with reported := d.sensor.reported.set k full, changes := d.sensor.changes.set k 0 } }
    match gateOf k with
    | some j => d1.setLevel j full
    | none => if full then d1.haltRequest .sweepFull else d1

/-- One reading of a level switch (R129). -/
def Device.readSwitch (d : Device) (k : Fin 25) (reading : Bool) : Device :=
  if reading = d.sensor.reported[k] then { d with sensor := { d.sensor with changes := d.sensor.changes.set k 0 } }
  else if d.sensor.changes[k] = 2 then d.levelChange k reading
  else { d with sensor := { d.sensor with changes := d.sensor.changes.set k (d.sensor.changes[k] + 1) } }

/-- The switch at a drive line and a sense line: switch k lies at drive k ÷ 5, sense k mod 5 (R127). -/
def switchAt (drive sense : Fin 5) : Fin 25 := ⟨5 * drive.val + sense.val, by omega⟩

/-- The row of the driven line is read, and the next line driven (R128). -/
def Device.readRow (d : Device) (sense : BitVec 5) : Device :=
  match d.sensor.driven with
  | some line =>
    let d1 := forEach 5 (fun i d => d.readSwitch (switchAt line i) (sense.getLsbD i.val)) d
    { d1 with sensor := { d1.sensor with driven := some (line + 1) } }
  | none => d

/-- A base tick (R131), its work in the order of the rule (log 10); the next tick follows by the interval held. -/
def Device.baseTick (d : Device) (guard calProtect : Bool) (sense : BitVec 5) : Device :=
  let d1 := ((d.guardSample guard).protectSample calProtect).readRow sense
  { d1 with slate := d1.slate.requestScan, timebase := { d1.timebase with due := d1.timebase.interval } }

/-! ## The meanings -/

/-- BASE_TICK (R131). -/
def execBaseTick (guard calProtect : Bool) (sense : BitVec 5) (s : State) : Host.Outcome State Fault Refusal :=
  s.event (fun d => d.baseTick guard calProtect sense)

/-- GUARD_CHANGE (R125). -/
def execGuardChange (closed : Bool) (s : State) : Host.Outcome State Fault Refusal :=
  s.event (fun d => d.guardChange closed)

/-- LEVEL_SWITCH_CHANGE (R129). -/
def execLevelSwitchChange (switch : Fin 25) (full : Bool) (s : State) : Host.Outcome State Fault Refusal :=
  s.event (fun d => d.levelChange switch full)

end Sys2Proof.Machine
end

