-- ==== Sys2Proof/Machine/Views.lean ====
section
/-! DEFINITION. What the part shows and does not store twice (log 18): the header (R154, R193), the live bin table (R120,
R191), RUNSTAT and IDENT (R156), and what a host read returns (R150, R151, R159). -/

namespace Sys2Proof.Machine

/-! ## The header (R154, R193) -/

/-- The value of a 32-bit header field to which the capture of R155 applies. -/
def headerValue (d : Device) : HeaderField → DWord
  | .lotIndexCount => d.k
  | .nextRecordSequence => d.journal.nextRecord
  | .withheldCount => d.journal.withheld
  | .firstWithheldSequence => d.journal.firstWithheld

/-- A flag held in a whole word: 0 clear, 1 set (R186). -/
def flagWord (b : Bool) : Word := if b then 1 else 0

/-- The header words below 0x40, in ascending order of offset from 0x00 (R193). -/
def headerWords (d : Device) : List Word :=
  [BitVec.ofNat 16 d.lot.state.code, BitVec.ofNat 16 d.phi, loWord d.k, hiWord d.k, d.idleIndexes,
    flagWord d.sensor.guardClosed, flagWord d.sensor.protect, flagWord d.port.latchFull, d.port.firstRefused,
    d.port.refused, BitVec.ofNat 16 d.journal.page.val, flagWord d.journal.stalled,
    loWord d.journal.nextRecord, hiWord d.journal.nextRecord, loWord d.journal.withheld, hiWord d.journal.withheld,
    loWord d.journal.firstWithheld, hiWord d.journal.firstWithheld]

/-- The five words of a link in the header (R193). -/
def linkWords (p : Port) : List Word :=
  [BitVec.ofNat 16 p.link.code, p.frameErrors.setWidth 16, p.rejects.setWidth 16, p.stale, p.lateCount]

/-- The header word at an even byte offset below 0x100; bytes that no row of R193 names are 0. -/
def headerWord (d : Device) (a : Nat) : Word :=
  if a < 0x40 then (headerWords d).getD (a / 2) 0
  else
    match indexOf 6 ((a - 0x40) / 16) with
    | some n => (linkWords d.ports[n]).getD (a % 16 / 2) 0
    | none => 0

/-! ## The live bin table (R120, R191) -/

/-- The flags byte of a gate, bits 0 to 4: DISABLED, offline, full, level-full, swap begin in progress (R191). -/
def Gate.flagBits (g : Gate) : Nat :=
  bitIf (decide (g.mode = .disabled)) 1 + bitIf g.offline 2 + bitIf g.full 4 + bitIf g.levelFull 8 + bitIf g.swap.isSome 16

/-- The flags byte of a live entry: bits 5 and 6 show the fire and the test fire in progress (R191). -/
def Gate.liveFlags (g : Gate) : Byte := byteOf (g.flagBits + bitIf g.fire.isSome 32 + bitIf g.test.isSome 64)

/-- The four words of a gate's live entry (R191). -/
def liveEntry (g : Gate) : List Word := [g.tally, g.capacity, g.stray, g.liveFlags ++ byteOf g.pending]

/-- The four words of entry 24, the sweep (R191). -/
def sweepEntry (d : Device) : List Word :=
  [0, 0, 0, byteOf (bitIf d.sensor.reported[(24 : Fin 25)] 8 + bitIf d.sweep.isSome 32) ++ (0 : Byte)]

/-- The live bin word at an even byte offset from 0x0500; unused words read 0 (R151). -/
def liveWord (d : Device) (a : Nat) : Word :=
  match indexOf 24 (a / 8) with
  | some j => (liveEntry d.gates[j]).getD (a % 8 / 2) 0
  | none => if a / 8 = 24 then (sweepEntry d).getD (a % 8 / 2) 0 else 0

/-! ## Registers and host reads (R150, R151, R156, R159) -/

/-- RUNSTAT: lot state, active bank, load bank, stalled, halt cause, init-in-progress (R156, R193). While
init-in-progress is set, the other fields show their reset values. -/
def runstat (d : Device) : Word :=
  if d.phase = .operating then
    BitVec.ofNat 16 (d.lot.state.code + 4 * bankCode d.lot.active + 16 * bankCode d.lot.load
      + bitIf d.journal.stalled 64 + 256 * causeCode d.lot.cause)
  else 0x8000

/-- The register word at a byte address from 0xC000 up; EVENTS and EVENT_MASK show their seven bits, NUDGE and the
unassigned words read 0 (R151, R157, R158). -/
def registerWord (d : Device) (a : Nat) : Word :=
  if a = 0xC000 then Config.ident
  else if a = 0xC002 then runstat d
  else if a = 0xC004 then d.port.events.setWidth 16
  else if a = 0xC006 then d.port.mask.setWidth 16
  else 0

/-- The word at an even byte address as it stands, outside initialization (R151). -/
def shownWord (d : Device) (a : Nat) : Word :=
  if a < 0x0100 then headerWord d a
  else if 0x0500 ≤ a ∧ a < 0x0600 then liveWord d (a - 0x0500)
  else if a < 0xC000 then readWord d.mem a
  else registerWord d a

/-- What a host read of a word address returns (R150); during a reset and initialization only IDENT and RUNSTAT read
other than 0 (R159). The capture of R155 is in the two rows that read 32-bit header fields. -/
def hostRead (d : Device) (address : BitVec 15) : Word :=
  let a := 2 * address.toNat
  if d.phase = .operating then shownWord d a
  else if a = 0xC000 then Config.ident
  else if a = 0xC002 then runstat d
  else 0

end Sys2Proof.Machine
end

