-- ==== Sys2Proof/Machine/Commands.lean ====
section
/-! DEFINITION. The Slate Scanner's own commands and its visits (10_command_slate.md): JOURNAL_FLUSH, TALLY_SNAPSHOT,
COUNTERS_CLEAR, an unknown kind, and SCAN_VISIT, which takes whatever command a cell holds. -/

namespace Sys2Proof.Machine

/-! ## JOURNAL_FLUSH (R170) -/

/-- JOURNAL_FLUSH: the detail is the record count of the page closed, 0 where none is (R170, R183). -/
def Device.journalFlush (d : Device) (n : Fin 16) : Device :=
  d.flush.complete n .ok (BitVec.ofNat 32 d.writer.flushCount)

/-! ## TALLY_SNAPSHOT (R172, R191) -/

/-- The byte address of the snapshot area. -/
def snapshotBase : Nat := 0x0600

/-- A gate's eight bytes in the snapshot: tally, capacity, pending, flags bits 0 to 4; the rest 0 (R191). -/
def snapshotGate (g : Gate) : List Byte :=
  wordBytes g.tally ++ wordBytes g.capacity ++ [byteOf g.pending, byteOf g.flagBits, 0, 0]

/-- The bytes of a snapshot from 0x0600 on (R172, R191). -/
def snapshotBytes (d : Device) (sequence : DWord) : List Byte :=
  dwordBytes sequence ++ wordBytes (BitVec.ofNat 16 d.lot.state.code)
  ++ wordBytes (BitVec.ofNat 16 (bankCode d.lot.active)) ++ dwordBytes d.lot.lotId ++ dwordBytes d.lot.nextSerial
  ++ dwordBytes d.k ++ dwordBytes d.journal.nextRecord ++ List.replicate 8 0
  ++ d.gates.toList.flatMap snapshotGate ++ d.lot.counters.toList.flatMap dwordBytes

/-- The snapshot sequence after the next snapshot: one more, saturating (R172). -/
def Device.nextSnapshot (d : Device) : DWord := satInc (readDWord d.mem snapshotBase)

/-- The snapshot area is written in one step (R172, R173). -/
def Device.snapshot (d : Device) : Device :=
  { d with mem := writeBytes (clearRange d.mem snapshotBase 0x0800) snapshotBase (snapshotBytes d d.nextSnapshot) }

/-- TALLY_SNAPSHOT: the detail is the new snapshot sequence (R172). -/
def Device.tallySnapshot (d : Device) (n : Fin 16) : Device := d.snapshot.complete n .ok d.nextSnapshot

/-! ## COUNTERS_CLEAR (R174) -/

/-- The four counters of a port become 0 (R37, R174). -/
def Port.clearCounters (p : Port) : Port := { p with frameErrors := 0, rejects := 0, stale := 0, lateCount := 0 }

/-- Stray-drop counters, link counters and the refused-write latch are cleared (R174). -/
def Device.clearCounters (d : Device) : Device :=
  { d with
    gates := mapVec (fun g => { g with stray := 0 }) d.gates
    ports := mapVec Port.clearCounters d.ports
    port := { d.port with latchFull := false, firstRefused := 0, refused := 0 } }

/-- COUNTERS_CLEAR: the detail is the refused-write count before the clear (R174). -/
def Device.countersClear (d : Device) (n : Fin 16) : Device := d.clearCounters.complete n .ok (d.port.refused.setWidth 32)

/-! ## The command a cell holds (R164, R167, R188) -/

/-- The command of a kind, with the parameters the kind names read from the cell; an unknown kind is refused (R167).
`clearSense` is the level that a RESUME samples at its take (R123). -/
def Device.runKind (d : Device) (n : Fin 16) (clearSense : Bool) (kind : Nat) : Device :=
  match kind with
  | 1 => d.lotStart n (parameter d.mem n 0) (parameter32 d.mem n 2) (parameter32 d.mem n 6)
  | 2 => d.lotEnd n
  | 3 => d.lotAbort n
  | 4 => d.resume n clearSense
  | 5 => d.bankSwitch n (parameter d.mem n 0) (parameter d.mem n 2)
  | 6 => d.binSwapBegin n (parameter d.mem n 0)
  | 7 => d.binSwapEnd n (parameter d.mem n 0)
  | 8 => d.gateMode n (parameter d.mem n 0) (parameter d.mem n 2)
  | 9 => d.testFire n (parameter d.mem n 0)
  | 10 => d.headSelect n (parameter d.mem n 0) (parameter d.mem n 2)
  | 11 => d.headRequalify n (parameter d.mem n 0)
  | 12 => d.journalFlush n
  | 13 => d.tallySnapshot n
  | 14 => d.countersClear n
  | _ => d.refuse n .refusedUnknown 0

/-- The command that a taken cell holds. -/
def Device.runCell (d : Device) (n : Fin 16) (clearSense : Bool) : Device :=
  d.runKind n clearSense (kindWord d.mem n).toNat

/-! ## A scan (R163, R166) -/

/-- The visit of a cell (R163): POSTED is taken; a TAKEN owner word outside the taken set is completed with
REFUSED_UNKNOWN, which is a take (log 14); anything else is passed. -/
def Device.visit (d : Device) (n : Fin 16) (clearSense : Bool) : Device :=
  if ownerWord d.mem n = 1 then d.take n (fun d => d.runCell n clearSense)
  else if ownerWord d.mem n = 2 then d.take n (fun d => d.refuse n .refusedUnknown 0)
  else d

/-- What a visit leaves of the scan (R165, R166): after the sixteenth, a set request flag is cleared and starts a new
scan at the cell after the cursor. -/
def Slate.afterVisit (s : Slate) (scan : Scan) : Slate :=
  if 1 < scan.left then { s with scan := some { next := scan.next + 1, left := scan.left - 1 } }
  else if s.request then { s with request := false }.startScan
  else { s with scan := none }

/-- A scan visits its next cell; with no scan in progress there is no visit (log 6). -/
def Device.scanVisit (d : Device) (clearSense : Bool) : Device :=
  match d.slate.scan with
  | none => d
  | some scan =>
    let d1 := d.visit scan.next clearSense
    { d1 with slate := d1.slate.afterVisit scan }

/-! ## The meanings -/

/-- SCAN_VISIT (R166). -/
def execScanVisit (clearSense : Bool) (s : State) : Host.Outcome State Fault Refusal :=
  s.event (fun d => d.scanVisit clearSense)

/-- JOURNAL_FLUSH, taken from a cell (R170). -/
def execJournalFlush (cell : Fin 16) (s : State) : Host.Outcome State Fault Refusal :=
  s.event (fun d => d.take cell (fun d => d.journalFlush cell))

/-- TALLY_SNAPSHOT, taken from a cell (R172). -/
def execTallySnapshot (cell : Fin 16) (s : State) : Host.Outcome State Fault Refusal :=
  s.event (fun d => d.take cell (fun d => d.tallySnapshot cell))

/-- COUNTERS_CLEAR, taken from a cell (R174). -/
def execCountersClear (cell : Fin 16) (s : State) : Host.Outcome State Fault Refusal :=
  s.event (fun d => d.take cell (fun d => d.countersClear cell))

/-- UNKNOWN_COMMAND, taken from a cell: refused whatever its kind, no parameter read (R167, log 25). -/
def execUnknownCommand (cell : Fin 16) (_kind : Word) (s : State) : Host.Outcome State Fault Refusal :=
  s.event (fun d => d.take cell (fun d => d.refuse cell .refusedUnknown 0))

end Sys2Proof.Machine
end

