-- ==== Sys2Proof/Machine/HostPort.lean ====
section
/-! DEFINITION. The host's accesses to the port (09_exchange_memory_and_host_port.md): writes to exchange memory and to
the registers, and the two reads that act on the capture hold. -/

namespace Sys2Proof.Machine

/-! ## Writes (R150 to R153, R157, R158) -/

/-- The byte address of a word address (R150). -/
def byteAddress (address : BitVec 15) : Nat := 2 * address.toNat

/-- A refused write (R153): the latch takes the address if it is empty, the count rises, REFUSED is set. -/
def Device.refuseWrite (d : Device) (a : Nat) : Device :=
  let p := d.port
  { d with port :=
    { p with
      latchFull := true
      firstRefused := if p.latchFull then p.firstRefused else BitVec.ofNat 16 a
      refused := satInc p.refused
      events := p.events ||| Event.refused.bit } }

/-- An accepted write into exchange memory replaces the word; into the state word of the page a stalled Writer waits
for, it is an occasion of R182. -/
def Device.acceptWrite (d : Device) (a : Nat) (value : Word) : Device :=
  let d1 : Device := { d with mem := writeWord d.mem a value }
  if d.journal.stalled ∧ a = pageBase d.journal.page then d1.examineAwaited else d1

/-- A host write to EVENTS clears the flags written as 1; bits that carry no event are ignored (R157). -/
def Device.eventsWrite (d : Device) (value : Word) : Device :=
  { d with port := { d.port with events := d.port.events &&& ~~~(value.setWidth 7) } }

/-- A host write to EVENT_MASK replaces the seven enable bits (R158). -/
def Device.eventMaskWrite (d : Device) (value : Word) : Device :=
  { d with port := { d.port with mask := value.setWidth 7 } }

/-- A host write to NUDGE hands one scan request to the Slate Scanner; the value is not kept (R158, R165). -/
def Device.nudge (d : Device) (_value : Word) : Device := { d with slate := d.slate.requestScan }

/-- A host write to a word address (R151): the registers EVENTS, EVENT_MASK and NUDGE as their own rows (log 24), a
refused word as R153, any other word accepted. -/
def Device.hostWrite (d : Device) (address : BitVec 15) (value : Word) : Device :=
  let a := byteAddress address
  if a = 0xC004 then d.eventsWrite value
  else if a = 0xC006 then d.eventMaskWrite value
  else if a = 0xC008 then d.nudge value
  else if d.refuses a then d.refuseWrite a
  else d.acceptWrite a value

/-! ## The capture (R155) -/

/-- A read drives the data lines. -/
def Device.drive (d : Device) (value : Word) : Device := { d with port := { d.port with data := value } }

/-- A read of the low word of a 32-bit header field: it returns the low half, and the hold takes the high half, tagged
with the field (R155). -/
def Device.captureLow (d : Device) (field : HeaderField) : Device :=
  let value := headerValue d field
  { d with port := { d.port with data := loWord value, hold := some (field, hiWord value) } }

/-- A read of the high word: the held half if the hold is tagged with the field, which empties the hold, and the current
high half otherwise (R155). -/
def Device.readHigh (d : Device) (field : HeaderField) : Device :=
  match d.port.hold with
  | some (tag, half) =>
    if tag = field then { d with port := { d.port with data := half, hold := none } }
    else d.drive (hiWord (headerValue d field))
  | none => d.drive (hiWord (headerValue d field))

/-- A header read: during a reset and initialization it returns 0 and touches nothing else (R159). -/
def Device.readOr0 (d : Device) (f : Device → Device) : Device := if d.phase = .operating then f d else d.drive 0

/-! ## The meanings -/

/-- NUDGE (R158). -/
def execNudge (value : Word) (s : State) : Host.Outcome State Fault Refusal := s.event (fun d => d.nudge value)

/-- EVENTS_WRITE (R157). -/
def execEventsWrite (value : Word) (s : State) : Host.Outcome State Fault Refusal :=
  s.event (fun d => d.eventsWrite value)

/-- EVENT_MASK_WRITE (R158). -/
def execEventMaskWrite (value : Word) (s : State) : Host.Outcome State Fault Refusal :=
  s.event (fun d => d.eventMaskWrite value)

/-- HEADER_CAPTURE_READ (R155). -/
def execHeaderCaptureRead (field : HeaderField) (s : State) : Host.Outcome State Fault Refusal :=
  s.act (fun d => d.readOr0 (fun d => d.captureLow field))

/-- HOST_WRITE (R152). -/
def execHostWrite (address : BitVec 15) (value : Word) (s : State) : Host.Outcome State Fault Refusal :=
  s.event (fun d => d.hostWrite address value)

/-- HEADER_HIGH_WORD_READ (R155). -/
def execHeaderHighWordRead (field : HeaderField) (s : State) : Host.Outcome State Fault Refusal :=
  s.act (fun d => d.readOr0 (fun d => d.readHigh field))

end Sys2Proof.Machine
end

