-- ==== Sys2Proof/Machine/Deviation.lean ====
section
/-! DEFINITION. The Deviation Unit (04_measurement_and_deviation_arithmetic.md): pure functions of a frame and of the
values R61 names. Integers are exact; the 64 bits of R60 hold every value that validated fields give. -/

namespace Sys2Proof.Machine

/-- What the conversion of a READING frame yields (R59). -/
inductive Conversion
  | deviation (dt : Int) (tempHeld tempDefault : Bool)
  | final (o : PartOutcome)
  | failed (f : Failure)
deriving DecidableEq, Repr

/-- Both contact flags are OK (R63, R187). -/
def contactOk (f : HeadFrame) : Bool := f.flags.getLsbD 0 && f.flags.getLsbD 1

/-- The saturated flag. -/
def saturated (f : HeadFrame) : Bool := f.flags.getLsbD 2

/-- The temperature-valid flag. -/
def tempValid (f : HeadFrame) : Bool := f.flags.getLsbD 3

/-- N lies within 1..16. -/
def samplesInRange (f : HeadFrame) : Bool := decide (1 ≤ f.n.toNat) && decide (f.n.toNat ≤ 16)

/-- Net = S_pos − S_neg (R65). -/
def netOf (f : HeadFrame) : Int := f.sPos.toInt - f.sNeg.toInt

/-- The corrected count: Net × g ÷ (2 × N × 2^24), one division (R66). -/
def correctedCount (f : HeadFrame) (gain : Nat) : Int := roundDiv (netOf f * gain) (2 * f.n.toNat * 2 ^ 24)

/-- The raw deviation: (c − E) × 1,000,000 ÷ E, one division (R68). -/
def rawDeviation (c : Int) (nominal : Nat) : Int := roundDiv ((c - nominal) * 1000000) nominal

/-- The temperature correction: α × (T_used − T_ref) ÷ 16, one division (R71). -/
def correction (alpha used tRef : Int) : Int := roundDiv (alpha * (used - tRef)) 16

/-- The temperature stage's choice (R70): T_used, TEMP_HELD, TEMP_DEFAULT. -/
def chooseTemperature (f : HeadFrame) (last : Option Int) (tRef : Int) : Int × Bool × Bool :=
  if tempValid f then (f.t.toInt, false, false)
  else
    match last with
    | some t => (t, true, false)
    | none => (tRef, false, true)

/-- The conversion of an accepted READING frame (R59, R62 to R72), with the head's last valid temperature afterwards. -/
def convertReading (f : HeadFrame) (samplesSent : Byte) (gain nominal : Nat) (alpha tRef : Int) (last : Option Int) :
    Conversion × Option Int :=
  if !samplesInRange f || decide (f.n ≠ samplesSent) then (.failed .noReading, last)
  else if !contactOk f then (.failed .contactFail, last)
  else if saturated f then (.final .openCircuit, last)
  else
    let c := correctedCount f gain
    if c ≤ 0 then (.final .shortCircuit, last)
    else
      let raw := rawDeviation c nominal
      if raw ≤ Config.shortBound then (.final .shortCircuit, last)
      else
        let choice := chooseTemperature f last tRef
        (.deviation (clampDeviation (raw - correction alpha choice.1 tRef)) choice.2.1 choice.2.2,
          if tempValid f then some f.t.toInt else last)

/-- The conversion of an accepted REFERENCE frame (R76): a reference deviation, or none. -/
def convertReference (f : HeadFrame) (gain nominal : Nat) : Option Int :=
  if !samplesInRange f || saturated f then none
  else
    let c := correctedCount f gain
    if c ≤ 0 then none else some (clampDeviation (rawDeviation c nominal))

/-- The mean of a list of deviations, rounded half away from zero (R43, R77). -/
def meanOf (xs : List Int) : Int := roundDiv xs.sum xs.length

/-- The gain of a head entry at a range (R61); validation holds the range within 0..7. -/
def HeadEntry.gainAt (e : HeadEntry) (range : Nat) : Nat := if h : range < 8 then e.gains[range] else 0

/-- The drift window after a reference deviation: appended as the newest, the oldest of nine removed (R43). -/
def pushWindow (window : List Int) (deviation : Int) : List Int :=
  let grown := window ++ [deviation]
  if Config.driftWindowMax < grown.length then grown.tail else grown

/-- The drift test (R43): at least four entries, and the absolute value of their mean exceeds the limit. -/
def driftsBeyond (window : List Int) (limit : Nat) : Bool :=
  decide (Config.driftWindowMin ≤ window.length) && decide (limit < (meanOf window).natAbs)

end Sys2Proof.Machine
end

