-- ==== Sys2Proof/Machine/Grading.lean ====
section
/-! DEFINITION. The Grader (05_grading.md): the guard walk, the retest-possible test, the final walk, and the decisions
made with them, each a function from the record as it stands to the record as decided. The Grader holds no state. -/

namespace Sys2Proof.Machine

/-! ## The three tests -/

/-- D lies in a grade's plain window (R84). -/
def inPlain (m : Memory) (b : Bank) (dev : Int) (g : Fin 32) : Bool :=
  decide (gradeLow m b g ≤ dev) && decide (dev ≤ gradeHigh m b g)

/-- D lies in a grade's widened window (R81). -/
def inWidened (m : Memory) (b : Bank) (dev : Int) (g : Fin 32) : Bool :=
  decide (gradeLow m b g - gradeGuard m b g ≤ dev) && decide (dev ≤ gradeHigh m b g + gradeGuard m b g)

/-- D lies in a grade's core (R81). -/
def inCore (m : Memory) (b : Bank) (dev : Int) (g : Fin 32) : Bool :=
  decide (gradeLow m b g + gradeGuard m b g ≤ dev) && decide (dev ≤ gradeHigh m b g - gradeGuard m b g)

/-- The guard walk (R81): guarded when D lies outside the core of the first grade whose widened window contains it, and
that grade's retest flag is set. -/
def guarded (m : Memory) (b : Bank) (dev : Int) : Bool :=
  match (bankGrades m b).find? (inWidened m b dev) with
  | some g => !inCore m b dev g && decide (gradeRetest m b g = 1)
  | none => false

/-- A station counts as a retest station ahead: RETEST1 or RETEST2, fitted beyond the position, not FAILED (R83). -/
def Device.retestAhead (d : Device) (position : Nat) (st : Fin 3) : Bool :=
  decide (st ≠ 0) && decide ((d.stations[st]).state ≠ .failed) &&
    match d.geometry.stations[st] with
    | some x => decide (position < x)
    | none => false

/-- A retest, or retry, is possible for a record at a position (R83). -/
def Device.retestPossible (d : Device) (r : Pocket) (position : Nat) : Bool :=
  decide (r.attempts < 1 + bankMaxRetests d.mem r.bankOr) && (List.finRange 3).any (d.retestAhead position)

/-- A finished decision is placed in the record as its target requires (R85). -/
def Pocket.place (r : Pocket) (o : PartOutcome) (grade : Option (Fin 32)) (target : Target) : Pocket :=
  match target with
  | .gate j => { r with state := .graded, outcome := some o, grade := grade, target := some j }
  | .sweep => { r with state := .carry, outcome := some o, grade := grade, target := none }

/-- A fixed outcome, with the outcome map's target (R80, R85). -/
def placeFixed (m : Memory) (r : Pocket) (o : PartOutcome) : Pocket := r.place o none (outcomeTarget m r.bankOr o)

/-- The final walk on the record's D (R84): the first grade whose plain window contains it, or UNGRADED. -/
def finalWalk (m : Memory) (r : Pocket) : Pocket :=
  match (bankGrades m r.bankOr).find? (inPlain m r.bankOr (r.deviation.getD 0)) with
  | some g => r.place .graded (some g) (targetOf (gradeTarget m r.bankOr g).toNat)
  | none => placeFixed m r .ungraded

/-! ## Decisions -/

/-- An entry is appended and D recomputed (R73, R77). -/
def Pocket.append (r : Pocket) (entry : Reading) : Pocket :=
  let readings := r.readings ++ [entry]
  { r with readings := readings, deviation := some (meanOf (readings.map (·.deviation))) }

/-- The decision on a corrected deviation (R86), at the station's position. -/
def Device.decideReading (d : Device) (position : Nat) (entry : Reading) (r : Pocket) : Pocket :=
  let grown := r.append entry
  if guarded d.mem grown.bankOr (grown.deviation.getD 0) && d.retestPossible grown position then
    { grown with state := .retestWait }
  else finalWalk d.mem grown

/-- The decision on OPEN or SHORT (R87). -/
def Device.decideFinal (d : Device) (o : PartOutcome) (r : Pocket) : Pocket := placeFixed d.mem r o

/-- The decision on a failure (R88, R89), at the position R90 gives. -/
def Device.decideFailure (d : Device) (position : Nat) (f : Failure) (r : Pocket) : Pocket :=
  let marked := { r with lastFailure := some f }
  if r.readings = [] then
    if d.retestPossible r position then { marked with state := .loaded }
    else placeFixed d.mem marked f.outcome
  else
    if d.retestPossible r position then { marked with state := .retestWait }
    else { finalWalk d.mem marked with retestLate := true }

/-- What remains of a pocket that has run out of stations (R91, R92): the final walk with RETEST_SKIPPED, its last
failure, or SKIPPED. -/
def Device.decideWithoutStation (d : Device) (r : Pocket) : Pocket :=
  if r.readings ≠ [] then { finalWalk d.mem r with retestSkipped := true }
  else
    match r.lastFailure with
    | some f => placeFixed d.mem r f.outcome
    | none => { r with state := .carry, outcome := some .skipped, target := none }

/-- A later fitted station remains beyond a position, whatever its state (R91). -/
def Geometry.laterStation (g : Geometry) (position : Nat) : Bool :=
  g.stations.toList.any (fun x => match x with | some y => decide (position < y) | none => false)

/-- The decision on a pocket that arrives at a FAILED station (R91). -/
def Device.decideFailedStation (d : Device) (position : Nat) (r : Pocket) : Pocket :=
  if d.geometry.laterStation position then r else d.decideWithoutStation r

end Sys2Proof.Machine
end

