-- ==== Sys2Proof/Machine/Links.lean ====
section
/-! DEFINITION. The events of the gauge links (03_gauge_links_and_heads.md): carrier, frames, the silence timer, the
contact delay; and what an accepted frame does (R57). -/

namespace Sys2Proof.Machine

/-! ## Link states (R38, R39) -/

/-- Carrier appears on a DOWN link (R38). -/
def Port.carrierUp (p : Port) : Port :=
  if p.link = .down then { p with link := .acquire, goodRun := 0, badRun := 0, silence := true } else p

/-- What every departure from LOCKED, and every loss of carrier, leaves (R39): runs 0, serial absent, frame errors 0;
the silence timer restarts on entry to ACQUIRE and stops on entry to DOWN. -/
def Port.unlock (next : LinkState) (p : Port) : Port :=
  { p with
    link := next
    goodRun := 0
    badRun := 0
    serial := none
    frameErrors := 0
    silence := decide (next ≠ .down) }

/-- A valid frame in ACQUIRE or LOCKED (R38, R39): the eighth in ACQUIRE locks the link. -/
def Port.validFrame (p : Port) : Port :=
  match p.link with
  | .acquire =>
    if Config.lockRun ≤ p.goodRun + 1 then { p with link := .locked, goodRun := 0, badRun := 0, silence := true }
    else { p with goodRun := p.goodRun + 1, silence := true }
  | .locked => { p with badRun := 0, silence := true }
  | .down => p

/-- An invalid frame (R38, R39): the fourth in a row in LOCKED loses the lock, and its count with it. -/
def Port.invalidFrame (p : Port) : Port :=
  match p.link with
  | .acquire => { p with goodRun := 0, silence := true }
  | .locked =>
    if Config.dropRun ≤ p.badRun + 1 then p.unlock .acquire
    else { p with frameErrors := satInc p.frameErrors, badRun := p.badRun + 1, silence := true }
  | .down => p

/-- The silence timer expires after 5,000 µs without a frame (R38, R39). -/
def Port.silent (p : Port) : Port :=
  match p.link with
  | .acquire => { p with goodRun := 0, silence := true }
  | .locked => p.unlock .acquire
  | .down => p

/-- The content of a STATUS frame (R40): S_pos is the head serial, S_neg the triggers rejected; a negative one adds
nothing. -/
def Port.status (f : HeadFrame) (p : Port) : Port :=
  { p with serial := some f.sPos, rejects := satAdd p.rejects f.sNeg.toInt.toNat }

/-- A link event that can enter or leave LOCKED: the head is evaluated if it did (R42). -/
def Device.linkEvent (d : Device) (h : Fin 6) (f : Port → Port) : Device :=
  let d1 := d.updPort h f
  if (d.ports[h]).link = .locked ↔ (d1.ports[h]).link = .locked then d1 else d1.evaluate h

/-- Carrier appears (R38). -/
def Device.carrierAppears (d : Device) (h : Fin 6) : Device := d.updPort h Port.carrierUp

/-- Carrier is lost: the link becomes DOWN and the head is evaluated (R39). -/
def Device.carrierLost (d : Device) (h : Fin 6) : Device :=
  if (d.ports[h]).link = .down then d else d.linkEvent h (Port.unlock .down)

/-- A STATUS frame is received (R40): its content is taken, it is counted as a valid frame, and in LOCKED the head is
evaluated (log 13). A link without carrier receives nothing. -/
def Device.statusFrame (d : Device) (h : Fin 6) (f : HeadFrame) : Device :=
  if (d.ports[h]).link = .down then d
  else
    let d1 := d.updPort h (fun p => (p.status f).validFrame)
    if (d1.ports[h]).link = .locked then d1.evaluate h else d1

/-! ## The classification of a frame (R41) -/

/-- The trigger a frame answers: sent, of its kind, with its tag. -/
def Port.answered (p : Port) (kind : TriggerKind) (tag : Byte) : Option Trigger :=
  match p.slot with
  | some t =>
    match t.sending with
    | .sent _ _ => if t.purpose.kind = kind ∧ t.tag = tag then some t else none
    | .waiting _ => none
  | none => none

/-- A frame that answers no trigger is late, if the late mark holds its kind and tag, or stale (R41). -/
def Port.discard (kind : TriggerKind) (tag : Byte) (p : Port) : Port :=
  if p.late = some { kind := kind, tag := tag } then { p with lateCount := satInc p.lateCount }
  else { p with stale := satInc p.stale }

/-- What the slot recorded when the frame was sent: range and sample count (R57). -/
def Trigger.asked (t : Trigger) : Nat × Byte :=
  match t.sending with
  | .sent range samples => (range.toNat, samples)
  | .waiting _ => (0, 0)

/-! ## What an accepted frame does (R57) -/

/-- The decision on the result of a conversion (R73). -/
def Device.decideConversion (d : Device) (h : Fin 6) (position : Nat) (r : Pocket) : Conversion → Pocket
  | .deviation dt held default =>
    d.decideReading position
      { station := stationOf h, side := sideOf h, deviation := dt, tempHeld := held, tempDefault := default } r
  | .final o => d.decideFinal o r
  | .failed f => d.decideFailure position f r

/-- The conversion that a READING frame of a pocket's record gets, from the sources of R61. -/
def Device.readingConversion (d : Device) (h : Fin 6) (f : HeadFrame) (t : Trigger) (r : Pocket) :
    Conversion × Option Int :=
  let gain := match d.headEntry h with | some e => e.gainAt t.asked.1 | none => 0
  let b := r.bankOr
  convertReading f t.asked.2 gain (bankNominal d.mem b) (bankAlpha d.mem b) (bankTRef d.mem b) (d.heads[h]).temperature

/-- An accepted READING frame: converted under the bank its pocket's record names, decided, written into the record;
a record that is not MEASURING is left as it is (R22, R57). -/
def Device.acceptReading (d : Device) (h : Fin 6) (f : HeadFrame) (t : Trigger) : Device :=
  match t.purpose with
  | .reference => d
  | .part p =>
    let r := d.track[p]
    if r.state = .measuring then
      let result := d.readingConversion h f t r
      let position := positionOf d.geometry.p d.phi p
      (d.updHead h (fun x => { x with temperature := result.2 })).updPocket p
        (fun _ => d.decideConversion h position r result.1)
    else d

/-- An accepted REFERENCE frame acts on the head's drift window (R43, R76). -/
def Device.acceptReference (d : Device) (h : Fin 6) (f : HeadFrame) (t : Trigger) : Device :=
  if (d.heads[h]).state.inService then
    match d.headEntry h with
    | none => d
    | some e =>
      match convertReference f (e.gainAt t.asked.1) e.nominal with
      | none => d.changeHead h .drifted
      | some dev =>
        let window := pushWindow (d.heads[h]).window dev
        let d1 := d.updHead h (fun x => { x with window := window })
        if driftsBeyond window e.driftLimit then d1.changeHead h .drifted else d1
  else d

/-- A READING frame is received (R41). -/
def Device.readingFrame (d : Device) (h : Fin 6) (f : HeadFrame) : Device :=
  if (d.ports[h]).link = .down then d
  else
    let d1 := d.linkEvent h Port.validFrame
    match (d1.ports[h]).answered .part f.tag with
    | some t => (d1.updPort h (fun p => { p with slot := none })).acceptReading h f t
    | none => d1.updPort h (Port.discard .part f.tag)

/-- A REFERENCE frame is received (R41). -/
def Device.referenceFrame (d : Device) (h : Fin 6) (f : HeadFrame) : Device :=
  if (d.ports[h]).link = .down then d
  else
    let d1 := d.linkEvent h Port.validFrame
    match (d1.ports[h]).answered .reference f.tag with
    | some t => (d1.updPort h (fun p => { p with slot := none })).acceptReference h f t
    | none => d1.updPort h (Port.discard .reference f.tag)

/-! ## The meanings -/

/-- CARRIER_APPEARS (R38). -/
def execCarrierAppears (link : Fin 6) (s : State) : Host.Outcome State Fault Refusal :=
  s.event (fun d => d.carrierAppears link)

/-- CARRIER_LOST (R39). -/
def execCarrierLost (link : Fin 6) (s : State) : Host.Outcome State Fault Refusal :=
  s.event (fun d => d.carrierLost link)

/-- INVALID_FRAME (R38, R39). -/
def execInvalidFrame (link : Fin 6) (s : State) : Host.Outcome State Fault Refusal :=
  s.event (fun d => d.linkEvent link Port.invalidFrame)

/-- STATUS_FRAME (R40). -/
def execStatusFrame (link : Fin 6) (frame : HeadFrame) (s : State) : Host.Outcome State Fault Refusal :=
  s.event (fun d => d.statusFrame link frame)

/-- READING_FRAME (R41). -/
def execReadingFrame (link : Fin 6) (frame : HeadFrame) (s : State) : Host.Outcome State Fault Refusal :=
  s.event (fun d => d.readingFrame link frame)

/-- REFERENCE_FRAME (R41). -/
def execReferenceFrame (link : Fin 6) (frame : HeadFrame) (s : State) : Host.Outcome State Fault Refusal :=
  s.event (fun d => d.referenceFrame link frame)

/-- SILENCE_TIMER_EXPIRY (R38, R39). -/
def execSilenceTimerExpiry (link : Fin 6) (s : State) : Host.Outcome State Fault Refusal :=
  s.event (fun d => d.linkEvent link Port.silent)

/-- CONTACT_DELAY_EXPIRY: the PART trigger waiting on the link is sent (R54). -/
def execContactDelayExpiry (link : Fin 6) (s : State) : Host.Outcome State Fault Refusal :=
  s.event (fun d => d.sendPart link)

end Sys2Proof.Machine
end

