-- ==== Sys2Proof/Machine/Reset.lean ====
section
/-! DEFINITION. Power-on, RESETn and initialization (R134, R159, R160, R161, R175). -/

namespace Sys2Proof.Machine

/-- The exchange memory with the contents of an image, in canonical form; an address beyond it is ignored. -/
def imageMemory (image : List Host.Cell) : Memory :=
  image.foldl (fun m c => if c.1 < 0xC000 then writeByte m c.1 c.2 else m) []

/-- What initialization keeps of the exchange memory: machine table and banks; the slate, the snapshot area and the
journal become 0, so every owner word and page state is FREE (R160). -/
def keptMemory (m : Memory) : Memory := m.filter (fun c => decide (0x0800 ≤ c.1) && decide (c.1 < 0x2000))

/-- A carrier that is present when initialization ends appears at that moment (R37). -/
def appearAll (carriers : BitVec 6) (d : Device) : Device :=
  forEach 6 (fun h d => if carriers.getLsbD h.val then d.carrierAppears h else d) d

/-- The end of initialization (R159, R160): the regions hold their values, every block stands at its reset value, drive
line 0 of the level matrix is driven (R128), carriers appear. The data lines keep their last value. -/
def Device.beginOperation (d : Device) (carriers : BitVec 6) : Device :=
  let base := Device.atReset .operating (keptMemory d.mem)
  appearAll carriers
    { base with sensor := { base.sensor with driven := some 0 }, port := { base.port with data := d.port.data } }

/-- The end of initialization has effect while initialization runs (log 1). -/
def Device.initializationEnd (d : Device) (carriers : BitVec 6) : Device :=
  if d.phase = .initializing then d.beginOperation carriers else d

/-- RESETn returns high: initialization starts (R134, R159); it has effect while a reset is taken. -/
def Device.release (d : Device) : Device := if d.phase = .held then { d with phase := .initializing } else d

/-! ## The meanings -/

/-- POWER_ON (R134): a reset that has ended, with the exchange memory holding whatever it holds (R160, log 8). -/
def execPowerOn (image : List Host.Cell) (s : State) : Host.Outcome State Fault Refusal :=
  s.act (fun _ => Device.atReset .initializing (imageMemory image))

/-- RESET (R134): every block takes its reset value; the exchange memory is kept until initialization (R160). -/
def execReset (s : State) : Host.Outcome State Fault Refusal := s.act (fun d => Device.atReset .held d.mem)

/-- INITIALIZATION_END (R159). -/
def execInitializationEnd (carriers : BitVec 6) (s : State) : Host.Outcome State Fault Refusal :=
  s.act (fun d => d.initializationEnd carriers)

/-- RESETN_RELEASE (R159). -/
def execResetnRelease (s : State) : Host.Outcome State Fault Refusal := s.act (fun d => d.release)

end Sys2Proof.Machine
end

