-- ==== Sys2Proof/Machine/Turret.lean ====
section
/-! DEFINITION. The Index Tracker's work of one index event (01_turret_track.md). -/

namespace Sys2Proof.Machine

/-- Φ and K advance (R2, R3). -/
def Device.advance (d : Device) : Device := { d with phi := (d.phi + 1) % d.geometry.p, k := d.k + 1 }

/-- The PART trigger of a pocket is ended as late, wherever it stands (R8, R15). -/
def Device.endPartOf (d : Device) (p : Fin 96) : Device := { d with ports := mapVec (Port.endPart p) d.ports }

/-- The departure of one pocket (R8): a MEASURING pocket's trigger is ended as late and NO_READING decided at the
position it held at the phase before the advance (R90). -/
def Device.depart (phiBefore : Nat) (p : Fin 96) (d : Device) : Device :=
  if (d.track[p]).state = .measuring then
    (d.endPartOf p).updPocket p (d.decideFailure (positionOf d.geometry.p phiBefore p) .noReading)
  else d

/-- A LOADED or RETEST_WAIT record. -/
def Pocket.awaiting (r : Pocket) : Bool := decide (r.state = .loaded) || decide (r.state = .retestWait)

/-- A pocket stranded past the last station is decided (R8, R92). -/
def Device.strand (p : Fin 96) (d : Device) : Device :=
  if (d.track[p]).awaiting && decide (d.geometry.sLast < positionOf d.geometry.p d.phi p) then
    d.updPocket p d.decideWithoutStation
  else d

/-- Departures are settled: first the MEASURING pockets, then the stranded ones (R8). -/
def Device.settleDepartures (phiBefore : Nat) (d : Device) : Device :=
  forEach 96 Device.strand (forEach 96 (Device.depart phiBefore) d)

/-- The load position's work in RUNNING (R10, R24). -/
def Device.loadWork (loadSense : Bool) (d : Device) : Device :=
  let p := pocketAt d.geometry.p d.phi 0
  if (d.track[p]).state = .empty ∧ loadSense then
    (d.updPocket p (fun _ =>
        { Pocket.empty with state := .loaded, serial := some d.lot.nextSerial, bank := d.lot.load })).updLot
      (fun l => { l.bump .loaded with nextSerial := l.nextSerial + 1 })
  else d

/-- A READY station schedules a part trigger for a pocket (R54): slot, MEASURING, attempts; a delay of 0 sends it at the
event (R130). -/
def Device.schedule (d : Device) (st : Fin 3) (p : Fin 96) (delay : Nat) : Device :=
  let h := headOf st (d.stations[st]).side
  if (d.ports[h]).slot.isSome then d
  else
    let d1 := d.updPort h (fun q =>
      { q with slot := some { purpose := .part p, tag := tagOf d.k, sending := .waiting delay } })
    let d2 := d1.updPocket p (fun r => { r with state := .measuring, attempts := r.attempts + 1 })
    let d3 := if 2 ≤ (d2.track[p]).attempts then d2.updLot (fun l => l.bump .retests) else d2
    if delay = 0 then d3.sendPart h else d3

/-- The contact delay of the held machine table, plus the relay settle time where a switch was applied at this event
(R48, R54), in sixteenths of a µs (R130). -/
def Device.triggerDelay (d : Device) (switched : Bool) : Nat :=
  match d.held with
  | some c => 16 * (c.contactDelay + if switched then c.relaySettle else 0)
  | none => 0

/-- The station work of an index event at one fitted station (R11). -/
def Device.stationWork (switched : Fin 3 → Bool) (st : Fin 3) (d : Device) : Device :=
  match d.geometry.stations[st] with
  | none => d
  | some x =>
    let p := pocketAt d.geometry.p d.phi x
    let r := d.track[p]
    if r.awaiting then
      match (d.stations[st]).state with
      | .ready =>
        if r.attempts < 1 + bankMaxRetests d.mem r.bankOr then d.schedule st p (d.triggerDelay (switched st)) else d
      | .failed => d.updPocket p (d.decideFailedStation x)
      | .settling => d
      | .disabled => d
    else d

/-- A FOREIGN record: the load bank, no serial, no readings (R14, R17). -/
def foreignRecord (load : Option Bank) : Pocket :=
  { Pocket.empty with state := .carry, bank := load, outcome := some .foreign }

/-- The clear check's record work (R14, R17): a CARRY record found empty retires, an EMPTY one found occupied becomes
FOREIGN. The test of a pending LOT_END follows a retirement (R33). -/
def Device.clearWork (clearSense : Bool) (d : Device) : Device :=
  let p := pocketAt d.geometry.p d.phi d.geometry.c
  if clearSense then
    if (d.track[p]).state = .empty then
      (d.updPocket p (fun _ => foreignRecord d.lot.load)).updLot (fun l => l.bump .foreign)
    else d
  else if (d.track[p]).state = .carry then (d.retireTested p none).lotEndTest
  else d

/-- Whether the clear check requests a JAM halt in RUNNING or DRAINING: a part over a CARRY or an EMPTY record (R14). -/
def Device.jamFound (clearSense : Bool) (d : Device) : Bool :=
  let r := d.track[pocketAt d.geometry.p d.phi d.geometry.c]
  clearSense && (decide (r.state = .carry) || decide (r.state = .empty))

/-- The clear check of an index event taken in RUNNING or DRAINING (R14). -/
def Device.clearCheck (clearSense : Bool) (d : Device) : Device :=
  if d.jamFound clearSense then (d.clearWork clearSense).haltRequest .jam else d.clearWork clearSense

/-- An index event in IDLE (R7). -/
def Device.indexIdle (d : Device) : Device := { d with idleIndexes := satInc d.idleIndexes }

/-- An index event in RUNNING or DRAINING (R6, section 1.4): advance, departures, the blocks of R9, then the position
work in the order of the positions (log 9). LOAD_SENSE is sampled only in RUNNING (R10). -/
def Device.indexMoving (d : Device) (loading loadSense clearSense : Bool) : Device :=
  let d1 := d.advance.settleDepartures d.phi
  let switched : Fin 3 → Bool := fun st => (d1.stations[st]).pending.isSome
  let d2 := d1.selectorWork.treatGates
  let d3 := if loading then d2.loadWork loadSense else d2
  let d4 := forEach 3 (Device.stationWork switched) d3
  let d5 := (forEach 24 (fun j d => d.gateWork j) d4).startSweep
  d5.clearCheck clearSense

/-- The pockets that an index event in HALTED takes past a decision point become CARRY with SKIPPED (R15). -/
def Device.haltedSkip (p : Fin 96) (d : Device) : Device :=
  let r := d.track[p]
  let x := positionOf d.geometry.p d.phi p
  if r.state = .measuring then (d.endPartOf p).updPocket p (Pocket.toCarry .skipped)
  else if r.awaiting && (d.geometry.stations.toList.contains (some x) || decide (d.geometry.sLast < x)) then
    d.updPocket p (Pocket.toCarry .skipped)
  else
    match r.target with
    | some j =>
      if r.state = .graded ∧ d.geometry.gates[j] = some x then d.updPocket p (Pocket.toCarry .skipped) else d
    | none => d

/-- An index event in HALTED (section 1.5). -/
def Device.indexHalted (d : Device) (clearSense : Bool) : Device :=
  let d1 := d.advance.selectorHaltedWork.treatGates
  (forEach 96 Device.haltedSkip d1).clearWork clearSense

/-- An index event, worked in the lot state read as it is taken (R6). -/
def Device.indexEvent (d : Device) (loadSense clearSense : Bool) : Device :=
  match d.lot.state with
  | .idle => d.indexIdle
  | .running => d.indexMoving true loadSense clearSense
  | .draining => d.indexMoving false loadSense clearSense
  | .halted => d.indexHalted clearSense

/-- INDEX_EVENT (R6): the line has qualified (R121), and the Index Tracker works the event. -/
def execIndexEvent (loadSense clearSense : Bool) (s : State) : Host.Outcome State Fault Refusal :=
  s.event (fun d => d.registerIndex.indexEvent loadSense clearSense)

end Sys2Proof.Machine
end

