-- ==== Sys2Proof/Machine/Dispatch.lean ====
section
/-! DEFINITION. One arm per row of the table: the command's effect on the part. The queue is the step's concern. -/

namespace Sys2Proof.Machine

def exec (i : Instr) (s : State) : Host.Outcome State Fault Refusal :=
  match i with
  | .powerOn image => Sys2Proof.Machine.execPowerOn image s
  | .reset => Sys2Proof.Machine.execReset s
  | .initializationEnd carriers => Sys2Proof.Machine.execInitializationEnd carriers s
  | .indexEvent loadSense clearSense => Sys2Proof.Machine.execIndexEvent loadSense clearSense s
  | .dropEdge gate => Sys2Proof.Machine.execDropEdge gate s
  | .carrierAppears link => Sys2Proof.Machine.execCarrierAppears link s
  | .carrierLost link => Sys2Proof.Machine.execCarrierLost link s
  | .invalidFrame link => Sys2Proof.Machine.execInvalidFrame link s
  | .statusFrame link frame => Sys2Proof.Machine.execStatusFrame link frame s
  | .readingFrame link frame => Sys2Proof.Machine.execReadingFrame link frame s
  | .referenceFrame link frame => Sys2Proof.Machine.execReferenceFrame link frame s
  | .silenceTimerExpiry link => Sys2Proof.Machine.execSilenceTimerExpiry link s
  | .contactDelayExpiry link => Sys2Proof.Machine.execContactDelayExpiry link s
  | .fireDelayExpiry output => Sys2Proof.Machine.execFireDelayExpiry output s
  | .hitTimeExpiry output => Sys2Proof.Machine.execHitTimeExpiry output s
  | .holdCarrierPeriod output edge => Sys2Proof.Machine.execHoldCarrierPeriod output edge s
  | .holdTimeExpiry output => Sys2Proof.Machine.execHoldTimeExpiry output s
  | .testFireObserveEnd gate => Sys2Proof.Machine.execTestFireObserveEnd gate s
  | .baseTick guard calProtect sense => Sys2Proof.Machine.execBaseTick guard calProtect sense s
  | .guardChange closed => Sys2Proof.Machine.execGuardChange closed s
  | .levelSwitchChange switch full => Sys2Proof.Machine.execLevelSwitchChange switch full s
  | .scanVisit clearSense => Sys2Proof.Machine.execScanVisit clearSense s
  | .lotStart cell bank lotId firstSerial => Sys2Proof.Machine.execLotStart cell bank lotId firstSerial s
  | .lotEnd cell => Sys2Proof.Machine.execLotEnd cell s
  | .lotEndCompletion => Sys2Proof.Machine.execLotEndCompletion s
  | .lotAbort cell => Sys2Proof.Machine.execLotAbort cell s
  | .resume cell clearSense => Sys2Proof.Machine.execResume cell clearSense s
  | .bankSwitch cell bank mode => Sys2Proof.Machine.execBankSwitch cell bank mode s
  | .bankSwitchCompletion => Sys2Proof.Machine.execBankSwitchCompletion s
  | .binSwapBegin cell gate => Sys2Proof.Machine.execBinSwapBegin cell gate s
  | .binSwapBeginCompletion gate => Sys2Proof.Machine.execBinSwapBeginCompletion gate s
  | .binSwapEnd cell gate => Sys2Proof.Machine.execBinSwapEnd cell gate s
  | .gateMode cell gate mode => Sys2Proof.Machine.execGateMode cell gate mode s
  | .testFire cell gate => Sys2Proof.Machine.execTestFire cell gate s
  | .headSelect cell station side => Sys2Proof.Machine.execHeadSelect cell station side s
  | .headSelectCompletion station => Sys2Proof.Machine.execHeadSelectCompletion station s
  | .headRequalify cell head => Sys2Proof.Machine.execHeadRequalify cell head s
  | .journalFlush cell => Sys2Proof.Machine.execJournalFlush cell s
  | .tallySnapshot cell => Sys2Proof.Machine.execTallySnapshot cell s
  | .countersClear cell => Sys2Proof.Machine.execCountersClear cell s
  | .unknownCommand cell kind => Sys2Proof.Machine.execUnknownCommand cell kind s
  | .nudge value => Sys2Proof.Machine.execNudge value s
  | .eventsWrite value => Sys2Proof.Machine.execEventsWrite value s
  | .eventMaskWrite value => Sys2Proof.Machine.execEventMaskWrite value s
  | .headerCaptureRead field => Sys2Proof.Machine.execHeaderCaptureRead field s
  | .hostWrite address value => Sys2Proof.Machine.execHostWrite address value s
  | .headerHighWordRead field => Sys2Proof.Machine.execHeaderHighWordRead field s
  | .resetnRelease => Sys2Proof.Machine.execResetnRelease s

end Sys2Proof.Machine
end

