-- ==== Sys2Proof/Safety.lean ====
section
/-! DEFINITION. The terms in which claims about the part are stated: what an answer to a cell leaves, the order of a valid
geometry, and the laws that the manual gives the part from one command to the next. -/

namespace Sys2Proof.Machine

/-! ## Answers of the Slate Scanner (R164, R168) -/

/-- A command is taken from a cell in operation: the cell is not in the taken set, and the exchange memory is in its
canonical form. -/
def Takes (s : State) (n : Fin 16) : Prop :=
  s.dev.phase = .operating ∧ s.dev.slate.taken[n] = false ∧ Memory.wf s.dev.mem = true

/-- The bytes of a cell that an answer writes: owner word, result code and result detail (R162, R168). -/
def AnswerByte (n : Fin 16) (a : Nat) : Prop :=
  (cellBase n ≤ a ∧ a < cellBase n + 2) ∨ (cellBase n + 6 ≤ a ∧ a < cellBase n + 12)

/-- `t` is what the take and the answer of cell `n`, taken from `d`, leave: every field is that of `e` but for the cursor,
the answer in the cell, the Journal Writer's work `w` and the events. Below the journal pages only the answer's bytes
differ from those of `d`; in the pages the bytes are the Writer's. -/
def Answered (d e t : Device) (n : Fin 16) (code : ResultCode) (detail : DWord) (w : Writer) (flags : BitVec 7) : Prop :=
  t = { e with
    mem := t.mem
    journal := w.journal
    slate := { d.slate with cursor := n }
    port := { e.port with events := w.events ||| flags ||| Event.slate.bit } }
  ∧ readWord t.mem (cellBase n) = 3 ∧ readWord t.mem (cellBase n + 6) = code.code
  ∧ readDWord t.mem (cellBase n + 8) = detail
  ∧ (∀ a, a < 0x2000 → ¬ AnswerByte n a → readByte t.mem a = readByte d.mem a)
  ∧ (∀ a, 0x2000 ≤ a → readByte t.mem a = readByte w.mem a)

/-- `t` is what the take of cell `n` from `d` leaves where the cell waits for its answer: every field is that of `e` but
for the taken set, the cursor, the Journal Writer's work and the events; the owner word holds TAKEN. -/
def HeldTaken (d e t : Device) (n : Fin 16) (w : Writer) (flags : BitVec 7) : Prop :=
  t = { e with
    mem := t.mem
    journal := w.journal
    slate := { d.slate with taken := d.slate.taken.set n true, cursor := n }
    port := { e.port with events := w.events ||| flags } }
  ∧ readWord t.mem (cellBase n) = 2
  ∧ (∀ a, a < 0x2000 → ¬ (cellBase n ≤ a ∧ a < cellBase n + 2) → readByte t.mem a = readByte d.mem a)
  ∧ (∀ a, 0x2000 ≤ a → readByte t.mem a = readByte w.mem a)

/-- `t` is what the later answer of a cell held since its take leaves (R168): the cell leaves the taken set, the cursor
stays. -/
def AnsweredLater (d e t : Device) (n : Fin 16) (code : ResultCode) (detail : DWord) (w : Writer) (flags : BitVec 7) :
    Prop :=
  t = { e with
    mem := t.mem
    journal := w.journal
    slate := { d.slate with taken := d.slate.taken.set n false }
    port := { e.port with events := w.events ||| flags ||| Event.slate.bit } }
  ∧ readWord t.mem (cellBase n) = 3 ∧ readWord t.mem (cellBase n + 6) = code.code
  ∧ readDWord t.mem (cellBase n + 8) = detail
  ∧ (∀ a, a < 0x2000 → ¬ AnswerByte n a → readByte t.mem a = readByte d.mem a)
  ∧ (∀ a, 0x2000 ≤ a → readByte t.mem a = readByte w.mem a)

/-- The part after the Journal Writer's work and the setting of event flags. -/
def Device.after (d : Device) (w : Writer) (flags : BitVec 7) : Device :=
  { d with journal := w.journal, mem := w.mem, port := { d.port with events := w.events ||| flags } }

/-- The Writer's work on one record that the part produces now. -/
def Device.records (d : Device) (r : Record) : Writer := d.writer.produce r d.k d.lot.lotId

/-! ## Runs of records -/

/-- The Writer's work on a run of records, one after the other (R179). -/
def Writer.writeAll (w : Writer) (rs : List Record) (k lotId : DWord) : Writer :=
  rs.foldl (fun w r => w.produce r k lotId) w

/-- The totals run for `g` grades (R36, R190): five counters a record, from the counter its number names, and 0 beyond
counter 15 + g. -/
def Lot.totals (l : Lot) (g : Nat) : List Record :=
  (List.range ((20 + g) / 5)).map (fun n => .lotTotals (5 * n)
    ((List.range 5).map (fun i => if 5 * n + i < 16 + g then l.counters.toList.getD (5 * n + i) 0 else 0)))

/-- The BIN_EVENTs of the gates whose full flag becomes `full`, in ascending order (R101). -/
def Device.fullRecords (d : Device) (full : Fin 24 → Bool) : List Record :=
  (List.finRange 24).filterMap (fun j =>
    if full j = (d.gates[j]).full then none
    else some (.binEvent j (if full j then .full else .available) (d.gates[j]).tally))

/-- The HEAD_EVENTs of the stations that give up their lot state (R44, R50), in ascending order (log 33): the ACTIVE head
becomes STANDBY, and a station without one shows the head of the side it is left on. -/
def Device.closingRecords (d : Device) : List Record :=
  (List.finRange 3).filterMap (fun st =>
    let s := d.stations[st]
    let own := headOf st s.side
    let last := headOf st (s.pending.getD s.side)
    if s.state = .disabled then none
    else if (d.heads[own]).state = .active then some (.headEvent own .active .standby .disabled)
    else some (.headEvent last (d.heads[last]).state (d.heads[last]).state .disabled))

/-- The journal and its pages of `t` are those that the Writer's work `w` leaves. -/
def WrittenBy (t : Device) (w : Writer) : Prop :=
  t.journal = w.journal ∧ ∀ a, 0x2000 ≤ a → readByte t.mem a = readByte w.mem a

/-! ## Halts and head changes -/

/-- `t` is `d` after a halt into the return state `ret` (R28): lot state, cause and return state, every fire cut with its
window left open, LOT_EVENT(halt) and the HALT event. -/
def HaltsTo (d t : Device) (cause : HaltCause) (ret : ReturnState) : Prop :=
  let w := d.records (.lotHalt cause ret)
  t = { d with
    lot := { d.lot with state := .halted, cause := some cause, ret := some ret }
    gates := t.gates, sweep := none, journal := w.journal, mem := w.mem
    port := { d.port with events := w.events ||| Event.halt.bit } }
  ∧ ∀ j : Fin 24, t.gates[j] = { d.gates[j] with fire := none }

/-- `t` is `d` after a halt request (R28): it halts a lot that is RUNNING or DRAINING and nothing else. -/
def Halts (d t : Device) (cause : HaltCause) : Prop :=
  match d.lot.state with
  | .running => HaltsTo d t cause .running
  | .draining => HaltsTo d t cause .draining
  | .idle => t = d
  | .halted => t = d

/-- A station after the head of one of its sides has gone from `old` to `new` (R46, R47), `head` giving the states of its
heads before: a READY station that loses its ACTIVE head turns to a STANDBY other side or is FAILED; a SETTLING station
that loses its pending side returns to its ACTIVE head, turns to a STANDBY other side or is FAILED; a FAILED station turns
to a head that becomes STANDBY. A HEAD_SELECT waits on only while a switch is pending (R51). -/
def stationAfter (x : Station) (side : Side) (old new : HeadState) (head : Side → HeadState) : Station :=
  let y : Station :=
    if x.state = .ready ∧ side = x.side ∧ old = .active then
      if head side.other = .standby then { x with state := .settling, pending := some side.other }
      else { x with state := .failed, pending := none }
    else if x.state = .settling ∧ x.pending = some side ∧ old = .standby then
      if side ≠ x.side ∧ head x.side = .active then { x with state := .ready, pending := none }
      else if head side.other = .standby then { x with pending := some side.other }
      else { x with state := .failed, pending := none }
    else if x.state = .failed ∧ new = .standby then { x with state := .settling, pending := some side }
    else x
  { y with select := if y.pending = none then none else y.select }

/-- `t` is `d` after head `l` has changed to `new` (R42, R43, R44, R46, R47, R56): the head's state, its window emptied
where it becomes OFFLINE, its trigger ended as late where it leaves service, its station, one HEAD_EVENT; a HEAD_SELECT
whose switch this clears completes with ABORTED, and station 0 becoming FAILED requests a halt. -/
def HeadChanges (d t : Device) (l : Fin 6) (new : HeadState) : Prop :=
  let st := stationOf l
  let x := d.heads[l]
  let y := d.stations[st]
  let y' := stationAfter y (sideOf l) x.state new (fun side => (d.heads[headOf st side]).state)
  let leaves := (x.state = .standby ∨ x.state = .active) ∧ ¬ (new = .standby ∨ new = .active)
  let port : Port := match (d.ports[l]).slot with
    | some g =>
      if leaves then { d.ports[l] with slot := none, late := some { kind := g.purpose.kind, tag := g.tag } }
      else d.ports[l]
    | none => d.ports[l]
  let e : Device := { d with
    ports := d.ports.set l port
    heads := d.heads.set l { x with state := new, window := if new = .offline then [] else x.window }
    stations := d.stations.set st y' }
  let w := d.records (.headEvent l x.state new y'.state)
  ∃ u : Device,
    (match y.select, y'.pending with
      | some c, none => AnsweredLater d e u c .aborted (if y'.side = .sideA then 0 else 1) w Event.head.bit
      | _, _ => u = e.after w Event.head.bit)
    ∧ (if st = 0 ∧ y.state ≠ .failed ∧ y'.state = .failed then Halts u t .primaryFailed else t = u)

/-! ## The phases of a valve profile (R107) -/

/-- The moments inside a run of a valve profile (R107). -/
inductive PhaseEvent
  | delayEnd | hitEnd | onPartEnd | periodStart | holdEnd
deriving DecidableEq, Repr

/-- The row of the table that each moment is. -/
def PhaseEvent.command (output : Fin 25) : PhaseEvent → Instr
  | .delayEnd => .fireDelayExpiry output
  | .hitEnd => .hitTimeExpiry output
  | .onPartEnd => .holdCarrierPeriod output .onPartEnd
  | .periodStart => .holdCarrierPeriod output .periodStart
  | .holdEnd => .holdTimeExpiry output

/-- A run after a moment (R107): DELAY, HIT and HOLD in turn, HOLD left out where the hold time is 0, and the on-parts of
the carrier periods inside HOLD; a moment of a phase the run is not in leaves it. -/
def runAfter (p : Profile) (r : Run) : PhaseEvent → Option Run
  | .delayEnd => if r.phase = .delay then some { r with phase := .hit } else some r
  | .hitEnd =>
    if r.phase = .hit then
      if p.hold = 0 then none
      else some { r with phase := .hold, on := true, period := 0, onPart := min (p.duty * p.carrier) (16 * p.hold) }
    else some r
  | .onPartEnd => if r.phase = .hold ∧ p.duty < 16 then some { r with on := false } else some r
  | .periodStart =>
    if r.phase = .hold ∧ (r.period + 1) * p.carrier < p.hold then
      some { r with
        on := true
        period := r.period + 1
        onPart := min (p.duty * p.carrier) (16 * (p.hold - (r.period + 1) * p.carrier)) }
    else some r
  | .holdEnd => if r.phase = .hold then none else some r

/-- The run with which a gate fire or the sweep fire starts in RUNNING and DRAINING (R104, R107, R113, R114): in DELAY, or in
HIT at once where the fire delay is 0, before HOLD, and with its output held off while GUARD is open. -/
def startedRun (d : Device) (c : MachineCopy) (o : Fin 25) : Run where
  phase := if (c.profiles[o]).delay = 0 then .hit else .delay
  heldOff := !d.sensor.guardClosed
  on := false
  period := 0
  onPart := 0

/-! ## What an index event makes of a record -/

/-- A fixed outcome placed by entry `i` of the bank's outcome map (R80, R85): at its gate, or CARRY; an entry of 24 to 0xFFFE,
which no validated bank holds, is SWEEP (log 16). -/
def placedBy (m : Memory) (b : Bank) (o : PartOutcome) (i : Nat) (r : Pocket) : Pocket :=
  let target := (readWord m (bankBase b + 0x10 + 2 * i)).toNat
  if h : target < 24 then { r with state := .graded, outcome := some o, grade := none, target := some ⟨target, h⟩ }
  else { r with state := .carry, outcome := some o, grade := none, target := none }

/-- NO_READING decided for a record at position `x` (R83, R88, R89). -/
def missedAt (d : Device) (b : Bank) (x : Nat) (r : Pocket) : Pocket :=
  let m := { r with lastFailure := some .noReading }
  if d.retestPossible r x then { m with state := if r.readings = [] then .loaded else .retestWait }
  else if r.readings = [] then placedBy d.mem b .noReading 3 m
  else { finalWalk d.mem m with retestLate := true }

/-- A record that has run out of stations (R91, R92): the final walk on its readings, its last failure, or SKIPPED. -/
def withoutStation (d : Device) (b : Bank) (r : Pocket) : Pocket :=
  if r.readings ≠ [] then { finalWalk d.mem r with retestSkipped := true }
  else
    match r.lastFailure with
    | some .contactFail => placedBy d.mem b .contactFail 2 r
    | some .noReading => placedBy d.mem b .noReading 3 r
    | none => { r with state := .carry, outcome := some .skipped, target := none }

/-- The state in which a station works an index event: a pending switch is applied before (R48). -/
def Station.working (s : Station) : StationState := if s.pending = none then s.state else .ready

/-- The side on which it does. -/
def Station.workingSide (s : Station) : Side := s.pending.getD s.side

/-- A record that comes to a fitted station at position `x` (R11, R54, R91). -/
def stationed (d : Device) (b : Bank) (st : Fin 3) (x : Nat) (r : Pocket) : Pocket :=
  if r.state = .loaded ∨ r.state = .retestWait then
    match (d.stations[st]).working with
    | .ready =>
      if r.attempts < 1 + (readWord d.mem (bankBase b + 0x0C)).toNat then
        { r with state := .measuring, attempts := r.attempts + 1 }
      else r
    | .failed => if ∀ i : Fin 3, (d.geometry.stations[i]).getD 0 ≤ x then withoutStation d b r else r
    | .settling => r
    | .disabled => r
  else r

/-- The windows that an index event with the new `k` leaves open: not two events old, and not that of a fire in DELAY
(R109, R110). -/
def Gate.keptAt (g : Gate) (k : DWord) : List Window :=
  g.windows.filter (fun w => decide (w.k ≠ k - 2) &&
    !(match g.fire with
      | some f => decide (f.run.phase = .delay ∧ f.pocket = w.pocket ∧ f.k = w.k)
      | none => false))

/-- Whether a gate takes an arrival at that event (R100, R102, R103). -/
def Gate.takesAt (g : Gate) (k : DWord) : Bool :=
  decide (g.mode = .sort ∧ g.offline = false ∧ g.levelFull = false
    ∧ g.tally.toNat + (g.keptAt k).length < g.capacity.toNat)

/-- The full flag of a gate with `n` windows open (R100). -/
def Gate.fullWith (g : Gate) (n : Nat) : Bool :=
  decide (0 < g.capacity.toNat ∧ g.capacity.toNat ≤ g.tally.toNat + n) || g.levelFull

/-- The BIN_EVENT of a gate whose full flag goes from that of `n` open windows to that of `m` (R101). -/
def Gate.fullChange (g : Gate) (j : Fin 24) (n m : Nat) : List Record :=
  if g.fullWith m = g.fullWith n then [] else [.binEvent j (if g.fullWith m then .full else .available) g.tally]

/-- The HEAD_EVENTs of the switches that an index event applies (R44, R48), in ascending order of station (log 9): first the
head that leaves ACTIVE, then the one that becomes it. -/
def Device.switchRecords (d : Device) : List Record :=
  (List.finRange 3).flatMap (fun st =>
    let s := d.stations[st]
    match s.pending with
    | none => []
    | some side =>
      (if side ≠ s.side ∧ (d.heads[headOf st s.side]).state = .active then
        [.headEvent (headOf st s.side) .active .standby .ready] else [])
      ++ [.headEvent (headOf st side) .standby .active .ready])

/-- The BIN_EVENTs of the windows that an index event with the new `k` closes (R101, R115), in ascending order of gate
(log 9): where it empties the windows of a gate that waits for it, swap begin, then full or available. -/
def Device.windowRecords (d : Device) (k : DWord) : List Record :=
  (List.finRange 24).flatMap (fun j =>
    let g := d.gates[j]
    (if g.swap.isSome ∧ g.windows ≠ [] ∧ g.keptAt k = [] then [.binEvent j .swapBegin g.tally] else [])
    ++ g.fullChange j g.windows.length (g.keptAt k).length)

/-- The BIN_EVENTs of the arrivals at that event (R101, R104), in ascending order of gate (log 9): `t` is the part after it. -/
def Device.arrivalRecords (d t : Device) (k : DWord) : List Record :=
  (List.finRange 24).flatMap (fun j =>
    (d.gates[j]).fullChange j ((d.gates[j]).keptAt k).length (t.gates[j]).windows.length)

/-- The HEAD_EVENTs of the stations where the event completes a LOT_END (R44, R50), in ascending order (log 33): a pending
switch is applied before. -/
def Device.drainRecords (d : Device) : List Record :=
  (List.finRange 3).filterMap (fun st =>
    let s := d.stations[st]
    let own := headOf st (s.pending.getD s.side)
    let old := if s.pending = none then (d.heads[own]).state else .active
    if s.state = .disabled then none
    else some (.headEvent own old (if old = .active then .standby else old) .disabled))

/-- The Writer's work at an index event from `d` to `t` (R179), with the PART_RESULT and the LOT_EVENT(halt) that the clear
check gives: the records of the switches, of the windows and of the arrivals, then those (log 9), and where the event
completes a LOT_END the stations, LOT_EVENT(end), the totals run and the flush (R33, R36, R190). -/
def Device.indexWork (d t : Device) (results halts : List Record) : Writer :=
  let k := d.k + 1
  let w := d.writer.writeAll (d.switchRecords ++ d.windowRecords k ++ d.arrivalRecords t k ++ results ++ halts) k d.lot.lotId
  let g := match d.lot.active with
    | some b => (readWord d.mem (bankBase b + 0x0E)).toNat
    | none => 0
  if t.lot.state = .idle then
    (w.writeAll (d.drainRecords ++ [.lotEnd g ((20 + g) / 5) d.lot.lotId] ++ t.lot.totals g) k d.lot.lotId).flush d.lot.lotId
  else w

/-- The PART_RESULT of a record that retires at the clear position (R19): its gate is the kept target of EJECT_MISSED and
EJECT_UNCONFIRMED, none otherwise. -/
def clearResult (q : Fin 96) (r : Pocket) : Record :=
  .partResult q r (if r.outcome = some .ejectMissed ∨ r.outcome = some .ejectUnconfirmed then r.target else none)

/-- The gate to which a record is redirected from position `y` (R103, R105): the alternate of its grade, fitted beyond `y`,
once. -/
def redirectedTo (d : Device) (y : Nat) (r : Pocket) : Option (Fin 24) :=
  match r.grade, r.bank with
  | some i, some b =>
    let a := (gradeAlternate d.mem b i).toNat
    if h : a < 24 then
      match d.geometry.gates[(⟨a, h⟩ : Fin 24)] with
      | some z => if r.redirected = false ∧ r.outcome = some .graded ∧ y < z then some ⟨a, h⟩ else none
      | none => none
    else none
  | _, _ => none

/-- A GRADED record that comes to its target gate at position `y` (R103, R104). -/
def arrived (d : Device) (j : Fin 24) (y : Nat) (r : Pocket) : Pocket :=
  if (d.gates[j]).takesAt (d.k + 1) then { r with state := .fired }
  else
    match redirectedTo d y r with
    | some a => { r with target := some a, redirected := true }
    | none => { r with state := .carry, outcome := some .binUnavailable, target := none }

/-- A record that comes to position `y` in RUNNING or DRAINING, neither the load nor the clear position (R9, R11, R12). -/
def workedAt (d : Device) (b : Bank) (y : Nat) (r : Pocket) : Pocket :=
  match (List.finRange 3).find? (fun st => decide (d.geometry.stations[st] = some y)),
    (List.finRange 24).find? (fun j => decide (d.geometry.gates[j] = some y)) with
  | some st, _ => stationed d b st y r
  | none, some j => if r.state = .graded ∧ r.target = some j then arrived d j y r else r
  | none, none => r

/-! ## Validation (R135, R136, R138, R139, R140) -/

/-- A validation's answer in its first pass (R140): the least byte offset of a field outside its range, or none. -/
def LeastFailing (answer : Option Nat) (fails : Nat → Prop) : Prop :=
  match answer with
  | some o => fails o ∧ ∀ i, i < o → ¬ fails i
  | none => ∀ o, ¬ fails o

/-- A validation's answer in its second pass (R140): the offset charged by the first failing check, in the order of the
table's rows and, within a row, of the row's own order; or none. -/
def FirstFailing (answer : Option Nat) (fails : Nat → Nat → Nat → Prop) : Prop :=
  match answer with
  | some o => ∃ row i, fails row i o ∧ ∀ row' i' o', fails row' i' o' → row < row' ∨ row = row' ∧ i ≤ i'
  | none => ∀ row i o, ¬ fails row i o

/-- The field of fire profile `k` at an offset of the machine table lies outside its range (section 6.4, R135). -/
def ProfileFails (m : Memory) (k : Fin 25) (o : Nat) : Prop :=
  let base := 0x050 + 10 * k.val
  (o = base ∧ 20000 < tableWord m o)
  ∨ (o = base + 2 ∧ ¬ (100 ≤ tableWord m o ∧ tableWord m o ≤ 10000))
  ∨ (o = base + 4 ∧ 20000 < tableWord m o)
  ∨ (o = base + 6 ∧ ¬ (1 ≤ tableWord m o ∧ tableWord m o ≤ 16))
  ∨ (o = base + 8 ∧ tableWord m o ∉ [25, 50, 100, 200])

/-- The field of head entry `h` at an offset of the machine table lies outside its range (R135). -/
def HeadFails (m : Memory) (h : Fin 6) (o : Nat) : Prop :=
  let base := 0x200 + 64 * h.val
  (o = base ∧ 1 < tableWord m o)
  ∨ (tableWord m base = 1 ∧
    ((o = base + 2 ∧ 7 < tableWord m o)
    ∨ (∃ r : Fin 8, o = base + 8 + 4 * r.val
        ∧ ¬ (8388608 ≤ (tableDWord m o).toNat ∧ (tableDWord m o).toNat ≤ 33554432))
    ∨ (o = base + 0x28 ∧ ¬ (1000 ≤ (tableDWord m o).toNat ∧ (tableDWord m o).toNat ≤ 8000000))
    ∨ (o = base + 0x2C ∧ ¬ (10 ≤ tableWord m o ∧ tableWord m o ≤ 50000))))

/-- The machine-table field at an offset is marked for checking and lies outside its range (R135). -/
def TableFieldFails (m : Memory) (o : Nat) : Prop :=
  let x := tableWord m o
  (o = 0x000 ∧ ¬ (32 ≤ x ∧ x ≤ 96))
  ∨ (∃ st : Fin 3, o = 0x002 + 2 * st.val ∧ 1 < x)
  ∨ (∃ st : Fin 3, o = 0x008 + 2 * st.val ∧ tableWord m (0x002 + 2 * st.val) = 1 ∧ ¬ (1 ≤ x ∧ x ≤ 95))
  ∨ (∃ j : Fin 24, o = 0x010 + 2 * j.val ∧ x ≠ 0xFFFF ∧ ¬ (1 ≤ x ∧ x ≤ 95))
  ∨ (o = 0x040 ∧ ¬ (1 ≤ x ∧ x ≤ 95)) ∨ (o = 0x042 ∧ ¬ (1 ≤ x ∧ x ≤ 95))
  ∨ (o = 0x044 ∧ x ∉ [250, 500, 1000, 2000]) ∨ (o = 0x046 ∧ 5000 < x) ∨ (o = 0x048 ∧ 20000 < x)
  ∨ (∃ k : Fin 25, (k.val < 24 → tableWord m (0x010 + 2 * k.val) ≠ 0xFFFF) ∧ ProfileFails m k o)
  ∨ ∃ h : Fin 6, HeadFails m h o

/-- The check of a row of R136, for the station or gate `i`, fails and is charged to offset `o`. -/
def TableCheckFails (m : Memory) (row i o : Nat) : Prop :=
  let p := tableWord m 0x000
  let w := tableWord m 0x040
  let fitted (st : Fin 3) : Prop := tableWord m (0x002 + 2 * st.val) = 1
  let station (st : Fin 3) : Nat := tableWord m (0x008 + 2 * st.val)
  let gate (j : Fin 24) : Nat := tableWord m (0x010 + 2 * j.val)
  (row = 1 ∧ i = 0 ∧ o = 0x002 ∧ ¬ fitted 0)
  ∨ (row = 2 ∧ ∃ st : Fin 3, i = st.val ∧ o = 0x008 + 2 * st.val ∧ fitted st ∧ p < station st + 1)
  ∨ (row = 3 ∧ ∃ st : Fin 3, i = st.val ∧ o = 0x008 + 2 * st.val ∧ fitted st
      ∧ ∃ earlier : Fin 3, earlier < st ∧ fitted earlier ∧ station st ≤ station earlier)
  ∨ (row = 4 ∧ ∃ j : Fin 24, i = j.val ∧ o = 0x010 + 2 * j.val ∧ gate j ≠ 0xFFFF
      ∧ ∃ st : Fin 3, fitted st ∧ gate j ≤ station st)
  ∨ (row = 5 ∧ ∃ j : Fin 24, i = j.val ∧ o = 0x010 + 2 * j.val ∧ gate j ≠ 0xFFFF ∧ w < gate j + 3)
  ∨ (row = 6 ∧ ∃ j : Fin 24, i = j.val ∧ o = 0x010 + 2 * j.val ∧ gate j ≠ 0xFFFF
      ∧ ∃ lower : Fin 24, lower < j ∧ gate lower = gate j)
  ∨ (row = 7 ∧ i = 0 ∧ o = 0x040 ∧ ∃ st : Fin 3, fitted st ∧ w ≤ station st)
  ∨ (row = 8 ∧ i = 0 ∧ o = 0x042 ∧ ¬ (w < tableWord m 0x042 ∧ tableWord m 0x042 + 1 ≤ p))

/-- The field of grade `g` at an offset of a bank lies outside its range (R138). -/
def GradeFails (m : Memory) (b : Bank) (g : Fin 32) (o : Nat) : Prop :=
  let base := 0x080 + 16 * g.val
  let long : DWord := readDWord m (bankBase b + o)
  let byte : Nat := (readByte m (bankBase b + o)).toNat
  ((o = base ∨ o = base + 4) ∧ ¬ (-999999 ≤ long.toInt ∧ long.toInt ≤ 999999))
  ∨ (o = base + 8 ∧ 100000 < long.toNat)
  ∨ (o = base + 0xC ∧ 1 < byte)
  ∨ (o = base + 0xD ∧ 23 < byte)
  ∨ (o = base + 0xE ∧ byte ≠ 0xFF ∧ 23 < byte)

/-- The bank field at an offset is marked for checking and lies outside its range (R138). -/
def BankFieldFails (m : Memory) (b : Bank) (o : Nat) : Prop :=
  let short : Word := readWord m (bankBase b + o)
  let long : DWord := readDWord m (bankBase b + o)
  (o = 0x000 ∧ ¬ (1000 ≤ long.toNat ∧ long.toNat ≤ 8000000))
  ∨ (o = 0x004 ∧ 7 < short.toNat)
  ∨ (o = 0x006 ∧ ¬ (1 ≤ short.toNat ∧ short.toNat ≤ 16))
  ∨ (o = 0x008 ∧ ¬ (-2000 ≤ short.toInt ∧ short.toInt ≤ 2000))
  ∨ (o = 0x00A ∧ short ≠ 0x7FFF ∧ ¬ (-640 ≤ short.toInt ∧ short.toInt ≤ 2400))
  ∨ (o = 0x00C ∧ 2 < short.toNat)
  ∨ (o = 0x00E ∧ ¬ (1 ≤ short.toNat ∧ short.toNat ≤ 32))
  ∨ (∃ i : Fin 5, o = 0x010 + 2 * i.val ∧ short ≠ 0xFFFF ∧ 23 < short.toNat)
  ∨ ∃ g : Fin 32, g.val < (readWord m (bankBase b + 0x00E)).toNat ∧ GradeFails m b g o

/-- The check of a row of R139, for the grade, map entry or gate `i`, fails and is charged to offset `o`. -/
def BankCheckFails (m : Memory) (b : Bank) (geometry : Geometry) (gates : Vector Gate 24) (row i o : Nat) : Prop :=
  let capacity (j : Fin 24) : Nat := (readWord m (bankBase b + 0x020 + 2 * j.val)).toNat
  let usable (x : Nat) : Prop := ∃ j : Fin 24, j.val = x ∧ geometry.gates[j] ≠ none ∧ 0 < capacity j
  let beyond (y x : Nat) : Prop := ∃ j k : Fin 24, j.val = y ∧ k.val = x
    ∧ ∃ py px, geometry.gates[j] = some py ∧ geometry.gates[k] = some px ∧ py < px
  let grade (g : Fin 32) : Prop := g.val < (readWord m (bankBase b + 0x00E)).toNat ∧ i = g.val
  (row = 1 ∧ ∃ g, grade g ∧ o = 0x084 + 16 * g.val ∧ gradeHigh m b g < gradeLow m b g)
  ∨ (row = 2 ∧ ∃ g, grade g ∧ o = 0x08D + 16 * g.val ∧ ¬ usable (gradeTarget m b g).toNat)
  ∨ (row = 3 ∧ ∃ g, grade g ∧ o = 0x08E + 16 * g.val ∧ gradeAlternate m b g ≠ 0xFF
      ∧ ¬ (usable (gradeAlternate m b g).toNat ∧ beyond (gradeTarget m b g).toNat (gradeAlternate m b g).toNat))
  ∨ (row = 4 ∧ ∃ e : Fin 5, i = e.val ∧ o = 0x010 + 2 * e.val ∧ readWord m (bankBase b + o) ≠ 0xFFFF
      ∧ ¬ usable (readWord m (bankBase b + o)).toNat)
  ∨ (row = 5 ∧ ∃ j : Fin 24, i = j.val ∧ o = 0x020 + 2 * j.val
      ∧ capacity j < (gates[j]).tally.toNat + (gates[j]).windows.length)

/-! ## The geometry of a lot (R1) -/

/-- The order of R1: 0 < S0 < S1 < S2 < every fitted gate ≤ W − 3, W < C ≤ P − 1, unfitted stations left out of the
chain, fitted gates distinct, P within 32..96. -/
def Geometry.Ordered (g : Geometry) : Prop :=
  32 ≤ g.p ∧ g.p ≤ 96
  ∧ (∃ x, g.stations[(0 : Fin 3)] = some x)
  ∧ (∀ (i : Fin 3) (x : Nat), g.stations[i] = some x → 0 < x ∧ x < g.p)
  ∧ (∀ (i j : Fin 3) (x y : Nat), i < j → g.stations[i] = some x → g.stations[j] = some y → x < y)
  ∧ (∀ (i : Fin 3) (j : Fin 24) (x y : Nat), g.stations[i] = some x → g.gates[j] = some y → x < y)
  ∧ (∀ (j : Fin 24) (y : Nat), g.gates[j] = some y → 0 < y ∧ y + 3 ≤ g.w)
  ∧ (∀ (i j : Fin 24) (y : Nat), g.gates[i] = some y → g.gates[j] = some y → i = j)
  ∧ (∀ (i : Fin 3) (x : Nat), g.stations[i] = some x → x < g.w)
  ∧ g.w < g.c ∧ g.c + 1 ≤ g.p

/-! ## The laws -/

/-- The gate law (R99, R100): tally plus pending stays within the capacity, and the full flag shows what its definition
gives. -/
def GateLaw (d : Device) : Prop :=
  ∀ j : Fin 24, (d.gates[j]).tally.toNat + (d.gates[j]).windows.length ≤ (d.gates[j]).capacity.toNat
    ∧ (d.gates[j]).full = (decide (0 < (d.gates[j]).capacity.toNat
        ∧ (d.gates[j]).capacity.toNat ≤ (d.gates[j]).tally.toNat + (d.gates[j]).windows.length)
      || (d.gates[j]).levelFull)

/-- The facts of each lot state (R23, R32, R148): IDLE holds no bank and nothing pending; an open lot has one bank that is
active and load bank; a halt has its cause and return state; a LOT_END is pending in DRAINING, and in a halt that returns
there; a BANK_SWITCH is pending only while a record names its old bank. -/
def LotLaw (d : Device) : Prop :=
  (∀ sw, d.lot.switch = some sw → 0 < d.refCount sw.old) ∧
  match d.lot.state with
  | .idle => d.lot.cause = none ∧ d.lot.ret = none ∧ d.lot.active = none ∧ d.lot.load = none ∧ d.lot.endCell = none
      ∧ d.lot.switch = none
  | .running => d.lot.cause = none ∧ d.lot.ret = none ∧ d.lot.active.isSome ∧ d.lot.load = d.lot.active
      ∧ d.lot.endCell = none
  | .draining => d.lot.cause = none ∧ d.lot.ret = none ∧ d.lot.active.isSome ∧ d.lot.load = d.lot.active
      ∧ d.lot.endCell.isSome
  | .halted => d.lot.cause.isSome ∧ d.lot.ret.isSome ∧ d.lot.active.isSome ∧ d.lot.load = d.lot.active
      ∧ (d.lot.endCell.isSome ↔ d.lot.ret = some .draining)

/-- A lot indexes only while it is fit to (R27, R28, R29, R31): in RUNNING and DRAINING the filtered GUARD is closed,
station 0 is not FAILED, and the sweep tube's switch does not report full. -/
def FitToRun (d : Device) : Prop :=
  d.lot.state = .running ∨ d.lot.state = .draining →
    d.sensor.guardClosed = true ∧ (d.stations[(0 : Fin 3)]).state ≠ .failed ∧ d.sensor.reported[(24 : Fin 25)] = false

/-- Where valves may be run (R108, R113, R117, R118): a gate fire or the sweep fire only in RUNNING and DRAINING, a test
fire only in IDLE with the filtered GUARD closed. -/
def FireLaw (d : Device) : Prop :=
  (d.lot.state = .idle ∨ d.lot.state = .halted → d.sweep = none ∧ ∀ j : Fin 24, (d.gates[j]).fire = none)
  ∧ ∀ j : Fin 24, (d.gates[j]).test.isSome → d.lot.state = .idle ∧ d.sensor.guardClosed = true

/-- The windows and the pockets they wait for (R96, R99, R104, R109, R110, R111): each window's pocket is FIRED at that gate
and has no second window, each FIRED pocket has a window, a window is of this index event or the one before and a gate has
one of each at most, a fire still in DELAY has its window, and no record is held in IDLE. -/
def WindowLaw (d : Device) : Prop :=
  (∀ (j : Fin 24) (w : Window), w ∈ (d.gates[j]).windows →
      (d.track[w.pocket]).state = .fired ∧ (d.track[w.pocket]).target = some j ∧ (w.k = d.k ∨ w.k = d.k - 1))
  ∧ (∀ j : Fin 24, ((d.gates[j]).windows.map (·.pocket)).Nodup ∧ ((d.gates[j]).windows.map (·.k)).Nodup
      ∧ (d.gates[j]).windows.length ≤ 2)
  ∧ (∀ p : Fin 96, (d.track[p]).state = .fired → ∃ (j : Fin 24) (w : Window), w ∈ (d.gates[j]).windows ∧ w.pocket = p)
  ∧ (∀ (j : Fin 24) (f : GateFire), (d.gates[j]).fire = some f → f.run.phase = .delay →
      ({ pocket := f.pocket, k := f.k } : Window) ∈ (d.gates[j]).windows)
  ∧ (d.lot.state = .idle → ∀ p : Fin 96, (d.track[p]).state = .empty)

/-- The number of non-EMPTY records. -/
def Device.occupied (d : Device) : Nat := d.track.toList.countP (fun r => decide (r.state ≠ .empty))

/-- The sum of the twelve retired outcome counters, counters 2 to 13 (R35, R190). -/
def Lot.retiredSum (l : Lot) : Nat := ((List.range 12).map (fun i => (l.counters.toList.getD (2 + i) 0).toNat)).sum

/-- Conservation of parts (R35): while none of the counters concerned has saturated, loaded plus foreign is the sum of the
twelve retired counters plus the non-EMPTY records. -/
def PartsLaw (d : Device) : Prop :=
  (∀ i : Fin 48, i.val < 14 → d.lot.counters[i] ≠ BitVec.allOnes 32) →
    (d.lot.counters[(0 : Fin 48)]).toNat + (d.lot.counters[(1 : Fin 48)]).toNat = d.lot.retiredSum + d.occupied

/-- What a record holds by its state (R4, R5, R18, R77). -/
def RecordFields (r : Pocket) : Prop :=
  (r.deviation = if r.readings = [] then none else some (meanOf (r.readings.map (·.deviation))))
  ∧ r.readings.length ≤ r.attempts
  ∧ (r.outcome = some .graded → r.grade.isSome)
  ∧ match r.state with
    | .empty => r = Pocket.empty
    | .loaded => r.serial.isSome ∧ r.bank.isSome ∧ r.readings = [] ∧ r.outcome = none ∧ r.grade = none ∧ r.target = none
    | .measuring => r.serial.isSome ∧ r.bank.isSome ∧ r.readings.length + 1 ≤ r.attempts ∧ r.outcome = none
        ∧ r.grade = none ∧ r.target = none
    | .retestWait => r.serial.isSome ∧ r.bank.isSome ∧ r.readings ≠ [] ∧ r.outcome = none ∧ r.grade = none
        ∧ r.target = none
    | .graded => r.serial.isSome ∧ r.bank.isSome ∧ r.outcome.isSome ∧ r.target.isSome
    | .fired => r.serial.isSome ∧ r.bank.isSome ∧ r.outcome.isSome ∧ r.target.isSome
    | .carry => (r.serial = none ↔ r.outcome = some .foreign) ∧ r.bank.isSome ∧ r.outcome.isSome
        ∧ (r.target.isSome ↔ r.outcome = some .ejectMissed ∨ r.outcome = some .ejectUnconfirmed)

/-- Every record holds what its state asks. -/
def RecordLaw (d : Device) : Prop := ∀ p : Fin 96, RecordFields d.track[p]

/-- What an open lot and the tick rest on (R1, R2, R131): a held geometry is ordered, an open lot holds one, Φ lies below P,
and the tick interval is one of the four selections. -/
def TurretLaw (d : Device) : Prop :=
  (∀ c, d.held = some c → c.geometry.Ordered ∧ d.phi < c.geometry.p)
  ∧ (d.lot.state ≠ .idle → d.held.isSome)
  ∧ (d.held = none → d.phi = 0)
  ∧ d.timebase.interval ∈ [250, 500, 1000, 2000] ∧ d.timebase.due ∈ [250, 500, 1000, 2000]

/-- The trigger slots (R8, R15, R37, R53, R58): in IDLE every slot is empty, a PART trigger names a pocket that is MEASURING,
and no two ports name one pocket. -/
def SlotLaw (d : Device) : Prop :=
  (d.lot.state = .idle → ∀ l : Fin 6, (d.ports[l]).slot = none)
  ∧ (∀ (l : Fin 6) (g : Trigger) (q : Fin 96), (d.ports[l]).slot = some g → g.purpose = .part q →
      (d.track[q]).state = .measuring)
  ∧ ∀ (l i : Fin 6) (g u : Trigger) (q : Fin 96), (d.ports[l]).slot = some g → (d.ports[i]).slot = some u →
      g.purpose = .part q → u.purpose = .part q → l = i

/-- The heads, the links and the stations (R42, R45): a head is OFFLINE exactly while its link is not LOCKED, the head off
the active side is never ACTIVE, and each station state says which heads stand behind it. A lot that is IDLE has every
station DISABLED. The trigger slots hold what SlotLaw says. -/
def StationLaw (d : Device) : Prop :=
  (∀ h : Fin 6, (d.heads[h]).state = .offline ↔ (d.ports[h]).link ≠ .locked)
  ∧ (d.lot.state = .idle → ∀ st : Fin 3, (d.stations[st]).state = .disabled)
  ∧ SlotLaw d
  ∧ ∀ st : Fin 3,
    let s := d.stations[st]
    let own := (d.heads[headOf st s.side]).state
    let other := (d.heads[headOf st s.side.other]).state
    other ≠ .active ∧ (s.select.isSome → s.state = .settling) ∧
    match s.state with
    | .disabled => own ≠ .active ∧ s.pending = none
    | .ready => own = .active ∧ s.pending = none
    | .settling => ∃ side, s.pending = some side ∧ (d.heads[headOf st side]).state = .standby
    | .failed => s.pending = none ∧ own ≠ .active ∧ own ≠ .standby ∧ other ≠ .standby

/-- The cells whose commands wait for their answer (R169). -/
def Device.waiting (d : Device) : List (Fin 16) :=
  d.lot.endCell.toList ++ (d.lot.switch.map (·.cell)).toList ++ d.gates.toList.filterMap (·.swap)
    ++ d.gates.toList.filterMap (fun g => g.test.map (·.cell)) ++ d.stations.toList.filterMap (·.select)

/-- The taken set (R163, R169): it holds the cells whose commands wait for their answer and no other, each for one
command, and the owner word of each holds TAKEN. -/
def CellLaw (d : Device) : Prop :=
  d.waiting.Nodup ∧ (∀ n : Fin 16, d.slate.taken[n] = true ↔ n ∈ d.waiting)
    ∧ ∀ n : Fin 16, d.slate.taken[n] = true → readWord d.mem (cellBase n) = 2

end Sys2Proof.Machine
end

