-- ==== Sys2Proof/WellFormed.lean ====
section
/-! DEFINITION. What the operand types of `Instr` leave open of a command's form. Every other bound of the manual is a
type (a gate is a `Fin 24`), or a value that the part itself checks and answers with REFUSED_INVALID. -/

namespace Sys2Proof

/-- A power-on image is in the canonical form of the exchange memory: addresses rising, below 0xC000, no byte 0. -/
def imageWellFormed : List Host.Cell → Bool
  | [] => true
  | [c] => decide (c.1 < 0xC000) && decide (c.2 ≠ 0)
  | c :: d :: rest => decide (c.1 < d.1) && decide (c.2 ≠ 0) && imageWellFormed (d :: rest)

/-- A command kind that is one of the fourteen of R188. -/
def knownKind (kind : Word) : Bool := decide (1 ≤ kind.toNat) && decide (kind.toNat ≤ 14)

/-- A word address that has a row of its own in the table: EVENTS, EVENT_MASK, NUDGE (0xC004, 0xC006, 0xC008). -/
def hasOwnRow (address : BitVec 15) : Bool :=
  decide (address.toNat = 0x6002) || decide (address.toNat = 0x6003) || decide (address.toNat = 0x6004)

/-- Well-formed commands: a power-on image is canonical, an UNKNOWN_COMMAND carries an unknown kind (R167), and a
HOST_WRITE goes to exchange memory or to a register without a row of its own. -/
def Instr.wellFormed : Instr → Bool
  | .powerOn image => imageWellFormed image
  | .unknownCommand _ kind => !knownKind kind
  | .hostWrite address _ => !hasOwnRow address
  | .reset | .initializationEnd _ | .indexEvent _ _ | .dropEdge _ | .carrierAppears _ | .carrierLost _
  | .invalidFrame _ | .statusFrame _ _ | .readingFrame _ _ | .referenceFrame _ _ | .silenceTimerExpiry _
  | .contactDelayExpiry _ | .fireDelayExpiry _ | .hitTimeExpiry _ | .holdCarrierPeriod _ _ | .holdTimeExpiry _
  | .testFireObserveEnd _ | .baseTick _ _ _ | .guardChange _ | .levelSwitchChange _ _ | .scanVisit _
  | .lotStart _ _ _ _ | .lotEnd _ | .lotEndCompletion | .lotAbort _ | .resume _ _ | .bankSwitch _ _ _
  | .bankSwitchCompletion | .binSwapBegin _ _ | .binSwapBeginCompletion _ | .binSwapEnd _ _ | .gateMode _ _ _
  | .testFire _ _ | .headSelect _ _ _ | .headSelectCompletion _ | .headRequalify _ _ | .journalFlush _
  | .tallySnapshot _ | .countersClear _ | .nudge _ | .eventsWrite _ | .eventMaskWrite _ | .headerCaptureRead _
  | .headerHighWordRead _ | .resetnRelease => true

end Sys2Proof
end

