-- ==== Sys2Proof/Certificates/Slice0/Obligations.lean ====
section
/-! DEFINITION. The statements about the part, in the order of OBLIGATIONS.json. -/

open Sys2Proof Sys2Proof.Machine

/-! ## The machine -/

/-- A step runs the command at the front of the queue on the state with the queue's rest. With no command waiting
the count of such steps rises, and of the part only the qualification of the edge lines can change (R121, R122,
R134): an armed DROP line stays armed, INDEX stays as it is or becomes armed or timed, and outside operation
nothing changes. That an empty queue idles is log 2's choice, and that the lines are watched then, by a free
value of which this says nothing, log 32's. -/
def Obligations.StepRunsTheFrontCommand : Prop :=
  (∀ (s : State) (c : Instr) (rest : List Instr), s.pending = c :: rest →
    step s = exec c { s with pending := rest })
  ∧ ∀ s : State, s.pending = [] → ∃ x : Sensor,
      step s = .next { s with idles := s.idles + 1, dev := { s.dev with sensor := x } }
      ∧ x = { s.dev.sensor with index := x.index, drops := x.drops }
      ∧ (∀ j : Fin 24, s.dev.sensor.drops[j] = true → x.drops[j] = true)
      ∧ (x.index = s.dev.sensor.index ∨ x.index = .armed ∨ x.index = .timing)
      ∧ (s.dev.phase ≠ .operating → x = s.dev.sensor)

/-- Every command answers a next state and leaves the queue: the part has no fault, and no command stops it. During
a reset and initialization (R134, R159) no event is taken and every host write is ignored: every command but
those of reset and initialization and the two reads leaves the state as it is. A cell in the taken set is passed
(R163; that a command row naming such a cell is a visit that passes it is log 4's choice). That the rows of
initialization act in their own phases alone is log 1's choice. -/
def Obligations.EveryCommandAnswers : Prop :=
  (∀ (c : Instr) (s : State), ∃ t, exec c s = .next t ∧ t.pending = s.pending)
  ∧ (∀ (c : Instr) (s : State), s.dev.phase ≠ .operating →
     (∀ image, c ≠ .powerOn image) → c ≠ .reset → (∀ b, c ≠ .initializationEnd b) → c ≠ .resetnRelease →
     (∀ f, c ≠ .headerCaptureRead f) → (∀ f, c ≠ .headerHighWordRead f) → exec c s = .next s)
  ∧ (∀ (s : State) (n : Fin 16) (c : Instr), s.dev.phase = .operating → s.dev.slate.taken[n] = true →
       ((∃ b i f, c = .lotStart n b i f) ∨ c = .lotEnd n ∨ c = .lotAbort n ∨ (∃ x, c = .resume n x)
         ∨ (∃ b m, c = .bankSwitch n b m) ∨ (∃ g, c = .binSwapBegin n g) ∨ (∃ g, c = .binSwapEnd n g)
         ∨ (∃ g m, c = .gateMode n g m) ∨ (∃ g, c = .testFire n g) ∨ (∃ x y, c = .headSelect n x y)
         ∨ (∃ x, c = .headRequalify n x) ∨ c = .journalFlush n ∨ c = .tallySnapshot n ∨ c = .countersClear n
         ∨ ∃ k, c = .unknownCommand n k) →
       exec c s = .next s)

/-! ## The laws that every step keeps -/

/-- The exchange memory keeps its canonical form. The form is the model's: addresses rising and no byte 0 listed
(log 7). -/
def Obligations.EveryStepKeepsMemoryCanonical : Prop :=
  ∀ s t : State, Memory.wf s.dev.mem = true → step s = .next t → Memory.wf t.dev.mem = true

/-- The gate law (R99, R100): tally plus pending stays within the capacity of every gate, and the full flag is set
exactly when the capacity is above 0 and reached or level-full is set. -/
def Obligations.EveryStepKeepsTheGateLaw : Prop :=
  ∀ s t : State, Memory.wf s.dev.mem = true → GateLaw s.dev → step s = .next t → GateLaw t.dev

/-- The facts of each lot state (R23, R32, R148), as LotLaw lists them: banks, cause, return state, pending LOT_END
and pending BANK_SWITCH. -/
def Obligations.EveryStepKeepsTheLotLaw : Prop :=
  ∀ s t : State, LotLaw s.dev → step s = .next t → LotLaw t.dev

/-- A lot indexes only while it is fit to (R27, R28, R29, R31). -/
def Obligations.EveryStepKeepsTheLotFitToRun : Prop :=
  ∀ s t : State, FitToRun s.dev → step s = .next t → FitToRun t.dev

/-- Where valves may be run (R108, R113, R117, R118). -/
def Obligations.EveryStepKeepsTheFireLaw : Prop :=
  ∀ s t : State, FireLaw s.dev → step s = .next t → FireLaw t.dev

/-- The windows and the pockets they wait for (R96, R99, R104, R110). -/
def Obligations.EveryStepKeepsTheWindowLaw : Prop :=
  ∀ s t : State, WindowLaw s.dev → step s = .next t → WindowLaw t.dev

/-- Conservation of parts (R35). -/
def Obligations.EveryStepKeepsTheCountOfParts : Prop :=
  ∀ s t : State, PartsLaw s.dev → step s = .next t → PartsLaw t.dev

/-- What a record holds by its state (R4, R5, R18, R77), as RecordFields lists it. -/
def Obligations.EveryStepKeepsTheRecordLaw : Prop :=
  ∀ s t : State, LotLaw s.dev → RecordLaw s.dev → step s = .next t → RecordLaw t.dev

/-- The held geometry is in the order of R1, and the tick interval is one of four (R131). -/
def Obligations.EveryStepKeepsTheGeometry : Prop :=
  ∀ s t : State, Memory.wf s.dev.mem = true → TurretLaw s.dev → step s = .next t → TurretLaw t.dev

/-- The states of links, heads and stations agree (R42, R45), and the trigger slots name pockets that are MEASURING,
no two the same, and are empty in IDLE (R8, R15, R53, R58). -/
def Obligations.EveryStepKeepsTheStationLaw : Prop :=
  ∀ s t : State, StationLaw s.dev → step s = .next t → StationLaw t.dev

/-- The taken set holds the cells of the waiting commands (R163, R169). -/
def Obligations.EveryStepKeepsTheCellLaw : Prop :=
  ∀ s t : State, Memory.wf s.dev.mem = true → LotLaw s.dev → CellLaw s.dev → step s = .next t → CellLaw t.dev

/-- The machine right after reset meets every law, with an empty queue. -/
def Obligations.ResetMeetsEveryLaw : Prop :=
  State.reset.pending = [] ∧ Memory.wf State.reset.dev.mem = true ∧ GateLaw State.reset.dev ∧ LotLaw State.reset.dev
  ∧ FitToRun State.reset.dev ∧ FireLaw State.reset.dev ∧ WindowLaw State.reset.dev ∧ PartsLaw State.reset.dev
  ∧ RecordLaw State.reset.dev ∧ TurretLaw State.reset.dev ∧ StationLaw State.reset.dev ∧ CellLaw State.reset.dev

/-! ## Reset and initialization -/

/-- Power-on and RESETn give every block the reset value its rule states (R2, R3, R4, R7, R23, R37, R42, R45, R96,
R121, R122, R128, R131, R163, R177); power-on leaves the exchange memory with the contents it came up with (log
8) and runs initialization, RESETn keeps it and holds the part until its release. That no bytes of a trigger
frame are held and D0..D15 hold 0 is log 19's choice. That POWER_ON is already initializing and RESET held is
log 1's choice. -/
def Obligations.ResetGivesTheResetValues : Prop :=
  ∀ (s : State) (image : List Host.Cell), imageWellFormed image = true →
    let values (d : Device) : Prop :=
      d.phi = 0 ∧ d.k = 0 ∧ d.idleIndexes = 0 ∧ (∀ p : Fin 96, d.track[p] = Pocket.empty)
      ∧ d.lot = { state := .idle, cause := none, ret := none, lotId := 0, nextSerial := 0, active := none, load := none,
                  counters := d.lot.counters, endCell := none, switch := none }
      ∧ (∀ i : Fin 48, d.lot.counters[i] = 0)
      ∧ (∀ l : Fin 6, d.ports[l] =
          { link := .down, goodRun := 0, badRun := 0, silence := false, serial := none, slot := none, late := none,
            frameErrors := 0, rejects := 0, stale := 0, lateCount := 0, tx := [] })
      ∧ (∀ h : Fin 6, d.heads[h] = { state := .offline, window := [], temperature := none })
      ∧ (∀ st : Fin 3, d.stations[st] = { state := .disabled, side := .sideA, pending := none, select := none })
      ∧ (∀ j : Fin 24, d.gates[j] =
          { mode := .sort, offline := false, tally := 0, capacity := 0, windows := [], full := false, levelFull := false,
            fire := none, swap := none, test := none, stray := 0 })
      ∧ d.sweep = none ∧ d.sensor.guardClosed = false ∧ d.sensor.dwell = false ∧ d.sensor.protect = true
      ∧ d.sensor.driven = none ∧ d.sensor.index = .unseen ∧ (∀ j : Fin 24, d.sensor.drops[j] = false)
      ∧ (∀ i : Fin 25, d.sensor.reported[i] = false ∧ d.sensor.changes[i] = 0)
      ∧ d.timebase.interval = 1000 ∧ d.timebase.due = 1000 ∧ (∀ n : Fin 16, d.slate.taken[n] = false) ∧ d.slate.cursor = 15
      ∧ d.slate.request = false ∧ d.slate.scan = none
      ∧ d.journal = { page := 0, isOpen := false, nextRecord := 0, nextPage := 0, stalled := false, withheld := 0,
                      firstWithheld := 0 }
      ∧ d.port.latchFull = false ∧ d.port.firstRefused = 0 ∧ d.port.refused = 0 ∧ d.port.events = 0 ∧ d.port.mask = 0
      ∧ d.port.hold = none ∧ d.port.data = 0 ∧ d.held = none
    (∃ t, exec (.powerOn image) s = .next { s with dev := t } ∧ values t ∧ t.phase = .initializing
      ∧ Memory.wf t.mem = true ∧ ∀ a, readByte t.mem a = readByte image a)
    ∧ ∃ t, exec .reset s = .next { s with dev := t } ∧ values t ∧ t.phase = .held ∧ t.mem = s.dev.mem

/-- The release of RESETn starts initialization (R134, R159); its end (R37, R128, R159, R160) keeps the machine
table and the banks, clears the slate, the snapshot area and the journal, drives line 0 and takes each carrier
present as appearing. Each acts only in its own phase (log 1). D0..D15 keep what they held (log 19's choice). -/
def Obligations.InitializationEndStartsOperation : Prop :=
  ∀ (s : State) (carriers : BitVec 6),
    (∃ t, exec .resetnRelease s = .next { s with dev := t } ∧
      t = if s.dev.phase = .held then { s.dev with phase := .initializing } else s.dev)
    ∧ ∃ t, exec (.initializationEnd carriers) s = .next { s with dev := t } ∧
      if s.dev.phase = .initializing then
        t = { Device.atReset .operating t.mem with
          ports := t.ports
          sensor := { Sensor.reset with driven := some 0 }
          port := { ExchangePort.reset with data := s.dev.port.data } }
        ∧ (∀ a, readByte t.mem a = if 0x0800 ≤ a ∧ a < 0x2000 then readByte s.dev.mem a else 0)
        ∧ ∀ l : Fin 6, t.ports[l] =
            { Port.reset with
              link := if carriers.getLsbD l.val then .acquire else .down, silence := carriers.getLsbD l.val }
      else t = s.dev

/-! ## Commands of the slate -/

/-- GATE_MODE (R97): the gate takes the mode, the detail is the mode before (SORT 1, DISABLED 2); a gate outside
0..23 is refused at offset 0 and a mode that is neither at offset 2 (R167). COUNTERS_CLEAR (R174): the stray
counters, the four counters of every link and the refused-write latch become 0; the detail is the refused-write
count before. UNKNOWN_COMMAND (R167): REFUSED_UNKNOWN with detail 0, and nothing else. That an UNKNOWN_COMMAND
answers so for every kind in its operand is log 25's choice. -/
def Obligations.GateModeCountersClearUnknown : Prop :=
  (∀ (s : State) (n : Fin 16) (gate mode : Word), Takes s n →
     ∃ t, exec (.gateMode n gate mode) s = .next { s with dev := t } ∧
       if h : gate.toNat < 24 then
         let j : Fin 24 := ⟨gate.toNat, h⟩
         let before : DWord := if (s.dev.gates[j]).mode = .sort then 1 else 2
         if mode = 1 then
           Answered s.dev { s.dev with gates := s.dev.gates.set j { s.dev.gates[j] with mode := .sort } } t n .ok before
             s.dev.writer 0
         else if mode = 2 then
           Answered s.dev { s.dev with gates := s.dev.gates.set j { s.dev.gates[j] with mode := .disabled } } t n .ok
             before s.dev.writer 0
         else Answered s.dev s.dev t n .refusedInvalid 2 s.dev.writer 0
       else Answered s.dev s.dev t n .refusedInvalid 0 s.dev.writer 0)
  ∧ (∀ (s : State) (n : Fin 16), Takes s n →
       ∃ t, exec (.countersClear n) s = .next { s with dev := t } ∧
         ∃ (gates : Vector Gate 24) (ports : Vector Port 6),
           (∀ j : Fin 24, gates[j] = { s.dev.gates[j] with stray := 0 })
           ∧ (∀ l : Fin 6, ports[l] = { s.dev.ports[l] with frameErrors := 0, rejects := 0, stale := 0, lateCount := 0 })
           ∧ Answered s.dev
               { s.dev with
                 gates := gates
                 ports := ports
                 port := { s.dev.port with latchFull := false, firstRefused := 0, refused := 0 } } t n .ok
               (s.dev.port.refused.setWidth 32) s.dev.writer 0)
  ∧ (∀ (s : State) (n : Fin 16) (kind : Word), Takes s n →
       ∃ t, exec (.unknownCommand n kind) s = .next { s with dev := t }
         ∧ Answered s.dev s.dev t n .refusedUnknown 0 s.dev.writer 0)

/-- BIN_SWAP_BEGIN (R115): the gate goes offline; with no window open the cell completes with the tally and a
BIN_EVENT(swap begin), otherwise it waits. A swap begin in progress refuses with REFUSED_BUSY, an offline gate
with REFUSED_STATE. BIN_SWAP_END (R116): a gate that is offline with no swap begin in progress comes back with
tally 0; the BIN_EVENT(swap end) carries the tally before, and a BIN_EVENT(full or available) with tally 0
follows if the full flag changes (R101); the detail is the tally before. Otherwise REFUSED_STATE. -/
def Obligations.BinSwapsTakeAndReturnTheGate : Prop :=
  (∀ (s : State) (n : Fin 16) (gate : Word), Takes s n →
     ∃ t, exec (.binSwapBegin n gate) s = .next { s with dev := t } ∧
       if h : gate.toNat < 24 then
         let j : Fin 24 := ⟨gate.toNat, h⟩
         let g := s.dev.gates[j]
         match g.swap with
         | some holder => Answered s.dev s.dev t n .refusedBusy (BitVec.ofNat 32 holder.val) s.dev.writer 0
         | none =>
           if g.offline then Answered s.dev s.dev t n .refusedState 0 s.dev.writer 0
           else if g.windows = [] then
             Answered s.dev { s.dev with gates := s.dev.gates.set j { g with offline := true } } t n .ok
               (g.tally.setWidth 32) (s.dev.records (.binEvent j .swapBegin g.tally)) 0x10
           else
             HeldTaken s.dev { s.dev with gates := s.dev.gates.set j { g with offline := true, swap := some n } } t n
               s.dev.writer 0
       else Answered s.dev s.dev t n .refusedInvalid 0 s.dev.writer 0)
  ∧ (∀ (s : State) (n : Fin 16) (gate : Word), Takes s n →
       ∃ t, exec (.binSwapEnd n gate) s = .next { s with dev := t } ∧
         if h : gate.toNat < 24 then
           let j : Fin 24 := ⟨gate.toNat, h⟩
           let g := s.dev.gates[j]
           let full := decide (0 < g.capacity.toNat ∧ g.capacity.toNat ≤ g.windows.length) || g.levelFull
           let first := s.dev.records (.binEvent j .swapEnd g.tally)
           if g.offline = true ∧ g.swap = none then
             Answered s.dev
               { s.dev with gates := s.dev.gates.set j { g with tally := 0, offline := false, full := full } } t n .ok
               (g.tally.setWidth 32)
               (if full = g.full then first
                 else first.produce (.binEvent j (if full then .full else .available) 0) s.dev.k s.dev.lot.lotId) 0x10
           else Answered s.dev s.dev t n .refusedState 0 s.dev.writer 0
         else Answered s.dev s.dev t n .refusedInvalid 0 s.dev.writer 0)

/-- BIN_SWAP_BEGIN_COMPLETION (R115): with the gate's pending 0 the swap begin completes with the tally and its
BIN_EVENT; otherwise nothing changes. BANK_SWITCH_COMPLETION (R148): a pending switch whose old bank no record
names completes with OK and the references at its take; otherwise nothing changes. TEST_FIRE_OBSERVE_END (R118):
a test fire in OBSERVE ends, and its cell completes with OK and detail 1 if an edge was seen, else 0; with none
in OBSERVE nothing changes (log 6). That each of the three rows is the test of its condition is log 5's choice. -/
def Obligations.WaitingCellsAreAnswered : Prop :=
  (∀ (s : State) (j : Fin 24), s.dev.phase = .operating → Memory.wf s.dev.mem = true →
     ∃ t, exec (.binSwapBeginCompletion j) s = .next { s with dev := t } ∧
       let g := s.dev.gates[j]
       match g.swap with
       | some c =>
         if g.windows = [] then
           AnsweredLater s.dev { s.dev with gates := s.dev.gates.set j { g with swap := none } } t c .ok
             (g.tally.setWidth 32) (s.dev.records (.binEvent j .swapBegin g.tally)) 0x10
         else t = s.dev
       | none => t = s.dev)
  ∧ (∀ s : State, s.dev.phase = .operating → Memory.wf s.dev.mem = true →
       ∃ t, exec .bankSwitchCompletion s = .next { s with dev := t } ∧
         match s.dev.lot.switch with
         | some sw =>
           if ∀ p : Fin 96, (s.dev.track[p]).state = .empty ∨ (s.dev.track[p]).bank ≠ some sw.old then
             AnsweredLater s.dev { s.dev with lot := { s.dev.lot with switch := none } } t sw.cell .ok
               (BitVec.ofNat 32 sw.references) s.dev.writer 0
           else t = s.dev
         | none => t = s.dev)
  ∧ (∀ (s : State) (j : Fin 24), s.dev.phase = .operating → Memory.wf s.dev.mem = true →
       ∃ t, exec (.testFireObserveEnd j) s = .next { s with dev := t } ∧
         match (s.dev.gates[j]).test with
         | some { phase := .observe, edges := edges, cell := cell, profile := _ } =>
           AnsweredLater s.dev { s.dev with gates := s.dev.gates.set j { s.dev.gates[j] with test := none } } t cell .ok
             (if edges = 0 then 0 else 1) s.dev.writer 0
         | _ => t = s.dev)

/-- TEST_FIRE (R117): in IDLE with the filtered GUARD closed the gate's profile is read from the machine table and
the test fire starts, in HIT at once if the fire delay is 0, with no edge seen; the cell waits. Otherwise it is
refused, in the order of the rule. -/
def Obligations.TestFireStarts : Prop :=
  ∀ (s : State) (n : Fin 16) (gate : Word), Takes s n →
    ∃ t, exec (.testFire n gate) s = .next { s with dev := t } ∧
      if h : gate.toNat < 24 then
        let j : Fin 24 := ⟨gate.toNat, h⟩
        let g := s.dev.gates[j]
        let field (i : Nat) : Nat := (readWord s.dev.mem (0x0850 + 10 * j.val + 2 * i)).toNat
        if s.dev.lot.state ≠ .idle ∨ s.dev.sensor.guardClosed = false then
          Answered s.dev s.dev t n .refusedState 0 s.dev.writer 0
        else
          match g.test, validateProfile s.dev.mem j with
          | some u, _ => Answered s.dev s.dev t n .refusedBusy (BitVec.ofNat 32 u.cell.val) s.dev.writer 0
          | none, some offset =>
            Answered s.dev s.dev t n .refusedInvalid (BitVec.ofNat 32 (0x10000 + offset)) s.dev.writer 0
          | none, none =>
            let run : Run :=
              { phase := if field 0 = 0 then .hit else .delay, heldOff := false, on := false, period := 0, onPart := 0 }
            let profile : Profile :=
              { delay := field 0, hit := field 1, hold := field 2, duty := field 3, carrier := field 4 }
            let test : TestFire := { phase := .profile run, edges := 0, cell := n, profile := profile }
            HeldTaken s.dev { s.dev with gates := s.dev.gates.set j { g with test := some test } } t n s.dev.writer 0
      else Answered s.dev s.dev t n .refusedInvalid 0 s.dev.writer 0

/-- HEAD_SELECT (R51): a busy station, an ACTIVE head, a STANDBY head in IDLE and in an open lot, and a head in no
service, by the conditions of the rule in their order; a station outside 0..2 is refused at offset 0 and a side
that is neither at offset 2. That an open lot's station that is neither READY nor SETTLING refuses with
REFUSED_STATE is log 21's choice. HEAD_SELECT_COMPLETION (R48, R51, R169): with the switch pending it is applied
and the cell completes with OK and the new side, the HEAD_EVENTs first that of the head that leaves ACTIVE; with
no switch pending it completes with ABORTED and the active side; with no HEAD_SELECT waiting nothing changes
(log 5). -/
def Obligations.HeadSelectTurnsTheStation : Prop :=
  (∀ (s : State) (n : Fin 16) (station side : Word), Takes s n →
     ∃ t, exec (.headSelect n station side) s = .next { s with dev := t } ∧
       if h : station.toNat < 3 then
         let st : Fin 3 := ⟨station.toNat, h⟩
         let x := s.dev.stations[st]
         if side ≠ 0 ∧ side ≠ 1 then Answered s.dev s.dev t n .refusedInvalid 2 s.dev.writer 0
         else
           let sd : Side := if side = 0 then .sideA else .sideB
           let active := headOf st x.side
           match x.select with
           | some holder => Answered s.dev s.dev t n .refusedBusy (BitVec.ofNat 32 holder.val) s.dev.writer 0
           | none =>
             if (s.dev.heads[headOf st sd]).state = .active then
               Answered s.dev s.dev t n .ok (side.setWidth 32) s.dev.writer 0
             else if (s.dev.heads[headOf st sd]).state = .standby then
               if s.dev.lot.state = .idle then
                 Answered s.dev { s.dev with stations := s.dev.stations.set st { x with side := sd } } t n .ok
                   (side.setWidth 32) s.dev.writer 0
               else if x.state = .ready then
                 HeldTaken s.dev
                   { s.dev with
                     stations := s.dev.stations.set st { x with state := .settling, pending := some sd, select := some n } }
                   t n
                   (s.dev.records (.headEvent active (s.dev.heads[active]).state (s.dev.heads[active]).state .settling))
                   0x20
               else if x.state = .settling then
                 HeldTaken s.dev
                   { s.dev with stations := s.dev.stations.set st { x with pending := some sd, select := some n } } t n
                   s.dev.writer 0
               else Answered s.dev s.dev t n .refusedState 0 s.dev.writer 0
             else Answered s.dev s.dev t n .refusedState 0 s.dev.writer 0
       else Answered s.dev s.dev t n .refusedInvalid 0 s.dev.writer 0)
  ∧ (∀ (s : State) (st : Fin 3), s.dev.phase = .operating → Memory.wf s.dev.mem = true →
       (∀ side, (s.dev.stations[st]).pending = some side → (s.dev.heads[headOf st side]).state = .standby) →
       ∃ t, exec (.headSelectCompletion st) s = .next { s with dev := t } ∧
         let d := s.dev
         let x := d.stations[st]
         match x.select, x.pending with
         | none, _ => t = d
         | some c, none =>
           AnsweredLater d { d with stations := d.stations.set st { x with select := none } } t c .aborted
             (if x.side = .sideA then 0 else 1) d.writer 0
         | some c, some side =>
           let new := headOf st side
           let former := headOf st x.side
           let stations :=
             d.stations.set st { state := .ready, side := side, pending := none, select := none : Station }
           let detail : DWord := if side = .sideA then 0 else 1
           if x.side ≠ side ∧ (d.heads[former]).state = .active then
             let heads := (d.heads.set former { d.heads[former] with state := .standby }).set new
               { d.heads[new] with state := .active }
             AnsweredLater d { d with stations := stations, heads := heads } t c .ok detail
               ((d.records (.headEvent former .active .standby .ready)).produce
                 (.headEvent new .standby .active .ready) d.k d.lot.lotId) 0x20
           else
             AnsweredLater d
               { d with stations := stations, heads := d.heads.set new { d.heads[new] with state := .active } } t c .ok
               detail (d.records (.headEvent new .standby .active .ready)) 0x20)

/-- HEAD_REQUALIFY (R52): the drift window is emptied; a DRIFTED head is evaluated as if it were not, with a
HEAD_EVENT, and a FAILED station whose head becomes STANDBY turns toward it (R47). The detail is the head's
state after the command. -/
def Obligations.HeadRequalifyEvaluates : Prop :=
  ∀ (s : State) (n : Fin 16) (head : Word), Takes s n → StationLaw s.dev →
    ∃ t, exec (.headRequalify n head) s = .next { s with dev := t } ∧
      if hh : head.toNat < 6 then
        let h : Fin 6 := ⟨head.toNat, hh⟩
        let x := s.dev.heads[h]
        let y := s.dev.stations[stationOf h]
        if x.state = .drifted then
          let new : HeadState := if s.dev.qualified h then .standby else .unqualified
          let station : Station :=
            if y.state = .failed ∧ new = .standby then { y with state := .settling, pending := some (sideOf h) } else y
          Answered s.dev
            { s.dev with
              heads := s.dev.heads.set h { x with state := new, window := [] }
              stations := s.dev.stations.set (stationOf h) station } t n .ok (if new = .standby then 2 else 1)
            (s.dev.records (.headEvent h .drifted new station.state)) 0x20
        else
          Answered s.dev { s.dev with heads := s.dev.heads.set h { x with window := [] } } t n .ok
            (BitVec.ofNat 32 x.state.code) s.dev.writer 0
      else Answered s.dev s.dev t n .refusedInvalid 0 s.dev.writer 0

/-- JOURNAL_FLUSH (R170, R183): the Writer flushes, and the detail is the record count of the page it closes, 0
where it closes none: the page becomes FULL with its records as they were, the JOURNAL event is set, and the
next page, page 0 after page 79, is opened with its header if it is FREE and waited for otherwise (R178, R180,
R181). -/
def Obligations.JournalFlushClosesThePage : Prop :=
  ∀ (s : State) (n : Fin 16), Takes s n →
    ∃ t, exec (.journalFlush n) s = .next { s with dev := t } ∧
      let count := (readWord s.dev.mem (pageBase s.dev.journal.page + 2)).toNat
      if s.dev.journal.isOpen = true ∧ count ≠ 0 then
        let d := s.dev
        let j := d.journal
        let base := pageBase j.page
        let next := pageBase (j.page + 1)
        Answered d d t n .ok (BitVec.ofNat 32 count) (d.writer.closePage d.lot.lotId) 0
        ∧ readWord t.mem base = 2 ∧ (∀ i, i < 512 → 2 ≤ i → readByte t.mem (base + i) = readByte d.mem (base + i))
        ∧ t.port.events = d.port.events ||| 0x03
        ∧ (if readWord d.mem next = 0 then
            t.journal = { j with page := j.page + 1, isOpen := true, nextPage := j.nextPage + 1 }
            ∧ readWord t.mem next = 1 ∧ readWord t.mem (next + 2) = 0 ∧ readDWord t.mem (next + 4) = j.nextPage
            ∧ readDWord t.mem (next + 8) = j.nextRecord ∧ readDWord t.mem (next + 0xC) = d.lot.lotId
            ∧ ∀ i, i < 512 → 16 ≤ i → readByte t.mem (next + i) = 0
          else
            t.journal = { j with page := j.page + 1, isOpen := false, stalled := true, withheld := 0 }
            ∧ ∀ i, i < 512 → readByte t.mem (next + i) = readByte d.mem (next + i))
      else Answered s.dev s.dev t n .ok 0 s.dev.writer 0

/-- TALLY_SNAPSHOT (R172, R191): the snapshot sequence rises by 1, saturating, and the area takes the values as they
stand, in one step; the detail is the new sequence. -/
def Obligations.TallySnapshotCopiesTheCounts : Prop :=
  ∀ (s : State) (n : Fin 16), Takes s n →
    ∃ t, exec (.tallySnapshot n) s = .next { s with dev := t } ∧
      let d := s.dev
      let old := readDWord d.mem 0x0600
      let sequence : DWord := if old = 0xFFFFFFFF then old else old + 1
      t = { d with
        mem := t.mem
        slate := { d.slate with cursor := n }
        port := { d.port with events := d.port.events ||| 0x02 } }
      ∧ readWord t.mem (cellBase n) = 3 ∧ readWord t.mem (cellBase n + 6) = 0
      ∧ readDWord t.mem (cellBase n + 8) = sequence
      ∧ (∀ a, ¬ AnswerByte n a → ¬ (0x0600 ≤ a ∧ a < 0x0800) → readByte t.mem a = readByte d.mem a)
      ∧ readDWord t.mem 0x0600 = sequence ∧ readWord t.mem 0x0604 = BitVec.ofNat 16 d.lot.state.code
      ∧ readWord t.mem 0x0606 = BitVec.ofNat 16 (bankCode d.lot.active) ∧ readDWord t.mem 0x0608 = d.lot.lotId
      ∧ readDWord t.mem 0x060C = d.lot.nextSerial ∧ readDWord t.mem 0x0610 = d.k
      ∧ readDWord t.mem 0x0614 = d.journal.nextRecord
      ∧ (∀ j : Fin 24, readWord t.mem (0x0620 + 8 * j.val) = (d.gates[j]).tally
          ∧ readWord t.mem (0x0622 + 8 * j.val) = (d.gates[j]).capacity
          ∧ readByte t.mem (0x0624 + 8 * j.val) = BitVec.ofNat 8 (d.gates[j]).windows.length
          ∧ readByte t.mem (0x0625 + 8 * j.val) = BitVec.ofNat 8 (
              (if (d.gates[j]).mode = .disabled then 1 else 0) + (if (d.gates[j]).offline then 2 else 0)
              + (if (d.gates[j]).full then 4 else 0) + (if (d.gates[j]).levelFull then 8 else 0)
              + (if (d.gates[j]).swap.isSome then 16 else 0)))
      ∧ ∀ i : Fin 48, readDWord t.mem (0x06E0 + 4 * i.val) = d.lot.counters[i]

/-! ## Commands on the lot -/

/-- LOT_END (R32): in RUNNING the lot enters DRAINING and the completion is tested; in a halt that returns to
RUNNING the return state becomes DRAINING; elsewhere REFUSED_STATE. The completion is that of LOT_END_COMPLETION
(R33). RESUME (R31): refused outside HALTED; in HALTED refused with one flag in the detail per condition found,
and otherwise the lot enters its return state with its LOT_EVENT(resume), and into DRAINING the completion of
LOT_END is tested (R33; that RESUME's own answer comes first is log 31's choice). -/
def Obligations.LotEndAndResumeChangeTheLotState : Prop :=
  (∀ (s : State) (n : Fin 16), Takes s n →
     ∃ t, exec (.lotEnd n) s = .next { s with dev := t } ∧
       let d := s.dev
       if d.lot.state = .running then
         ∃ e, HeldTaken d { d with lot := { d.lot with state := .draining, endCell := some n } } e n d.writer 0
           ∧ exec .lotEndCompletion { s with dev := e } = .next { s with dev := t }
       else if d.lot.state = .halted ∧ d.lot.ret = some .running then
         HeldTaken d { d with lot := { d.lot with ret := some .draining, endCell := some n } } t n d.writer 0
       else Answered d d t n .refusedState 0 d.writer 0)
  ∧ (∀ (s : State) (n : Fin 16) (clearSense : Bool), Takes s n → LotLaw s.dev →
       ∃ t, exec (.resume n clearSense) s = .next { s with dev := t } ∧
         let d := s.dev
         let flags : Nat := (if d.sensor.guardClosed then 0 else 1) + (if d.sensor.reported[(24 : Fin 25)] then 2 else 0)
           + (if (d.stations[(0 : Fin 3)]).state = .failed then 4 else 0)
           + (if d.lot.cause = some .jam ∧ clearSense = true then 8 else 0)
         if d.lot.state ≠ .halted then Answered d d t n .refusedState 0 d.writer 0
         else if flags ≠ 0 then Answered d d t n .refusedState (BitVec.ofNat 32 flags) d.writer 0
         else if d.lot.ret = some .draining then
           ∃ e, Answered d { d with lot := { d.lot with state := .draining, cause := none, ret := none } } e n .ok 0
               (d.records (.lotResume .draining)) 0x04
             ∧ exec .lotEndCompletion { s with dev := e } = .next { s with dev := t }
         else
           Answered d { d with lot := { d.lot with state := .running, cause := none, ret := none } } t n .ok 0
             (d.records (.lotResume .running)) 0x04)

/-- LOT_END_COMPLETION (R33, R36, R44, R50, R58, R119, R190): in DRAINING, with every record EMPTY and a LOT_END
pending, the lot becomes IDLE without banks, its cell completes with OK and detail 0, the stations become
DISABLED with a pending switch applied, a HEAD_SELECT that waits for it completing with OK and the side, and
their ACTIVE heads STANDBY, every port forgets its trigger, no fire runs, and the rest stands; the journal takes
the HEAD_EVENTs of the stations, in ascending order (log 33), LOT_EVENT(end) and the totals run, and is flushed.
Otherwise nothing changes. That the row is the test of its condition is log 5's choice. -/
def Obligations.LotEndCompletes : Prop :=
  ∀ s : State, s.dev.phase = .operating → Memory.wf s.dev.mem = true → StationLaw s.dev → CellLaw s.dev →
    ∃ t, exec .lotEndCompletion s = .next { s with dev := t } ∧
      let d := s.dev
      match d.lot.endCell with
      | none => t = d
      | some c =>
        if d.lot.state = .draining ∧ ∀ p : Fin 96, (d.track[p]).state = .empty then
          t = { d with
            lot := { d.lot with state := .idle, cause := none, ret := none, active := none, load := none, endCell := none }
            stations := t.stations, heads := t.heads, ports := t.ports, gates := t.gates, sweep := none
            slate := t.slate, journal := t.journal, port := { d.port with events := t.port.events }, mem := t.mem }
          ∧ (∀ st : Fin 3, t.stations[st] =
              { state := .disabled, side := (d.stations[st]).pending.getD (d.stations[st]).side, pending := none,
                select := none })
          ∧ (∀ h : Fin 6, t.heads[h] =
              { d.heads[h] with state := if (d.heads[h]).state = .active then .standby else (d.heads[h]).state })
          ∧ (∀ l : Fin 6, t.ports[l] = { d.ports[l] with slot := none, late := none })
          ∧ (∀ j : Fin 24, t.gates[j] = { d.gates[j] with fire := none })
          ∧ t.slate.cursor = d.slate.cursor ∧ t.slate.request = d.slate.request ∧ t.slate.scan = d.slate.scan
          ∧ (∀ n : Fin 16, t.slate.taken[n] =
              decide (d.slate.taken[n] = true ∧ n ≠ c ∧ ∀ st : Fin 3, (d.stations[st]).select ≠ some n))
          ∧ readWord t.mem (cellBase c) = 3 ∧ readWord t.mem (cellBase c + 6) = 0 ∧ readDWord t.mem (cellBase c + 8) = 0
          ∧ (∀ (st : Fin 3) (n : Fin 16), (d.stations[st]).select = some n →
              readWord t.mem (cellBase n) = 3 ∧ readWord t.mem (cellBase n + 6) = 0
              ∧ readDWord t.mem (cellBase n + 8) = if (d.stations[st]).workingSide = .sideA then 0 else 1)
          ∧ (∀ a, a < 0x2000 → ¬ AnswerByte c a →
              (∀ (st : Fin 3) (n : Fin 16), (d.stations[st]).select = some n → ¬ AnswerByte n a) →
              readByte t.mem a = readByte d.mem a)
          ∧ ∀ b, d.lot.active = some b →
              let g := (readWord d.mem (bankBase b + 0x0E)).toNat
              let w := (d.writer.writeAll (d.closingRecords ++ [.lotEnd g ((20 + g) / 5) d.lot.lotId] ++ d.lot.totals g)
                d.k d.lot.lotId).flush d.lot.lotId
              t.journal = w.journal ∧ (∀ a, 0x2000 ≤ a → readByte t.mem a = readByte w.mem a)
              ∧ t.port.events = w.events ||| 0x06 ||| (if d.closingRecords = [] then 0 else 0x20)
        else t = d

/-- LOT_ABORT (R21, R34, R35, R36, R50, R58, R101, R119, R149, R190): outside IDLE every part is retired ABORTED and
the lot is IDLE without banks, its windows discarded and full flags re-evaluated, its fires ended, its stations
DISABLED. A BANK_SWITCH waiting completes with ABORTED and the references left, a LOT_END with ABORTED, a
BIN_SWAP_BEGIN with OK and the tally, a HEAD_SELECT with OK and the side, and the command's own cell with OK.
The journal takes the BIN_EVENTs of the full flags, the PART_RESULTs in ascending pocket order, the swap begin
BIN_EVENTs and the HEAD_EVENTs of the stations, these two in ascending order (log 33), LOT_EVENT(abort) and the
totals run, and is flushed. In IDLE it is refused. -/
def Obligations.LotAbortEmptiesTheTrack : Prop :=
  ∀ (s : State) (n : Fin 16), Takes s n → RecordLaw s.dev → StationLaw s.dev → CellLaw s.dev →
    ∃ t, exec (.lotAbort n) s = .next { s with dev := t } ∧
      let d := s.dev
      if d.lot.state = .idle then Answered d d t n .refusedState 0 d.writer 0
      else
        let full (j : Fin 24) : Bool :=
          if (d.gates[j]).windows = [] then (d.gates[j]).full
          else decide (0 < (d.gates[j]).capacity.toNat ∧ (d.gates[j]).capacity.toNat ≤ (d.gates[j]).tally.toNat)
            || (d.gates[j]).levelFull
        let swaps : List Record := (List.finRange 24).filterMap (fun j =>
          (d.gates[j]).swap.map (fun _ => .binEvent j .swapBegin (d.gates[j]).tally))
        let results : List Record := (List.finRange 96).filterMap (fun p =>
          if (d.track[p]).state = .empty then none
          else some (.partResult p { d.track[p] with outcome := some .aborted } none))
        t = { d with
          track := t.track
          lot := { d.lot with
            state := .idle, cause := none, ret := none, active := none, load := none, endCell := none, switch := none
            counters := t.lot.counters }
          stations := t.stations, heads := t.heads, ports := t.ports, gates := t.gates, sweep := none
          slate := t.slate, journal := t.journal, port := { d.port with events := t.port.events }, mem := t.mem }
        ∧ (∀ p : Fin 96, t.track[p] = Pocket.empty)
        ∧ (t.lot.counters[(13 : Fin 48)]).toNat
            = min 0xFFFFFFFF ((d.lot.counters[(13 : Fin 48)]).toNat + d.occupied)
        ∧ (t.lot.counters[(14 : Fin 48)]).toNat
            = min 0xFFFFFFFF ((d.lot.counters[(14 : Fin 48)]).toNat
              + d.track.toList.countP (fun r => decide (r.state ≠ .empty ∧ r.redirected = true)))
        ∧ (∀ i : Fin 48, i ≠ 13 → i ≠ 14 → t.lot.counters[i] = d.lot.counters[i])
        ∧ (∀ st : Fin 3, t.stations[st] =
            { state := .disabled, side := (d.stations[st]).pending.getD (d.stations[st]).side, pending := none,
              select := none })
        ∧ (∀ h : Fin 6, t.heads[h] =
            { d.heads[h] with state := if (d.heads[h]).state = .active then .standby else (d.heads[h]).state })
        ∧ (∀ l : Fin 6, t.ports[l] = { d.ports[l] with slot := none, late := none })
        ∧ (∀ j : Fin 24, t.gates[j] = { d.gates[j] with windows := [], fire := none, swap := none, full := full j })
        ∧ t.slate.cursor = n ∧ t.slate.request = d.slate.request ∧ t.slate.scan = d.slate.scan
        ∧ (∀ m : Fin 16, t.slate.taken[m] = true ↔ ∃ j : Fin 24, (d.gates[j]).test.map (fun x => x.cell) = some m)
        ∧ readWord t.mem (cellBase n) = 3 ∧ readWord t.mem (cellBase n + 6) = 0 ∧ readDWord t.mem (cellBase n + 8) = 0
        ∧ (∀ sw, d.lot.switch = some sw → readWord t.mem (cellBase sw.cell) = 3
            ∧ readWord t.mem (cellBase sw.cell + 6) = 5
            ∧ readDWord t.mem (cellBase sw.cell + 8) = BitVec.ofNat 32 (d.refCount sw.old))
        ∧ (∀ c, d.lot.endCell = some c → readWord t.mem (cellBase c) = 3 ∧ readWord t.mem (cellBase c + 6) = 5
            ∧ readDWord t.mem (cellBase c + 8) = 0)
        ∧ (∀ (j : Fin 24) (c : Fin 16), (d.gates[j]).swap = some c → readWord t.mem (cellBase c) = 3
            ∧ readWord t.mem (cellBase c + 6) = 0
            ∧ readDWord t.mem (cellBase c + 8) = (d.gates[j]).tally.setWidth 32)
        ∧ (∀ (st : Fin 3) (c : Fin 16), (d.stations[st]).select = some c → readWord t.mem (cellBase c) = 3
            ∧ readWord t.mem (cellBase c + 6) = 0
            ∧ readDWord t.mem (cellBase c + 8) = if (d.stations[st]).workingSide = .sideA then 0 else 1)
        ∧ (∀ a, a < 0x2000 → ¬ AnswerByte n a → (∀ m ∈ d.waiting, ¬ AnswerByte m a) →
            readByte t.mem a = readByte d.mem a)
        ∧ ∀ b, d.lot.active = some b →
            let g := (readWord d.mem (bankBase b + 0x0E)).toNat
            let cause : Option HaltCause := if d.lot.state = .halted then d.lot.cause else none
            let w := (d.writer.writeAll (d.fullRecords full ++ results ++ swaps ++ d.closingRecords
              ++ [.lotAbort g ((20 + g) / 5) d.lot.state d.lot.lotId cause] ++ t.lot.totals g)
              d.k d.lot.lotId).flush d.lot.lotId
            t.journal = w.journal ∧ (∀ a, 0x2000 ≤ a → readByte t.mem a = readByte w.mem a)
            ∧ t.port.events = w.events ||| 0x06 ||| (if d.fullRecords full ++ swaps = [] then 0 else 0x10)
              ||| (if d.closingRecords = [] then 0 else 0x20)

/-- BANK_SWITCH (R145, R146, R147, R148): refused in the order of R145; accepted, both banks become the new one,
IMMEDIATE moves the undecided records, the gates take the new capacities, and the cell completes at once with
detail 0 if no record names the old bank, and waits with the references otherwise. The journal takes the
BIN_EVENTs of the full flags that the new capacities change, in ascending gate order (R101), and nothing else. -/
def Obligations.BankSwitchChangesTheBank : Prop :=
  ∀ (s : State) (n : Fin 16) (bank mode : Word), Takes s n → LotLaw s.dev →
    ∃ t, exec (.bankSwitch n bank mode) s = .next { s with dev := t } ∧
      let d := s.dev
      let new : Bank := if bank = 1 then .bankA else .bankB
      if bank ≠ 1 ∧ bank ≠ 2 then Answered d d t n .refusedInvalid 0 d.writer 0
      else if mode ≠ 1 ∧ mode ≠ 2 then Answered d d t n .refusedInvalid 2 d.writer 0
      else if d.lot.state ≠ .running ∧ d.lot.state ≠ .draining then Answered d d t n .refusedState 0 d.writer 0
      else
        match d.lot.switch, validateBank d.mem new d.geometry d.gates with
        | some sw, _ => Answered d d t n .refusedBusy (BitVec.ofNat 32 sw.cell.val) d.writer 0
        | none, failing =>
          if d.lot.active = some new then Answered d d t n .refusedState 0 d.writer 0
          else
            match failing with
            | some offset =>
              Answered d d t n .refusedInvalid
                (BitVec.ofNat 32 ((if new = .bankA then 0x20000 else 0x30000) + offset)) d.writer 0
            | none =>
              let old : Bank := if new = .bankA then .bankB else .bankA
              let references := d.track.toList.countP (fun r => decide (r.state ≠ .empty ∧ r.bank = some old
                ∧ ¬ (mode = 2 ∧ (r.state = .loaded ∨ r.state = .measuring ∨ r.state = .retestWait))))
              t = { d with
                track := t.track
                lot := { d.lot with
                  active := some new
                  load := some new
                  switch := if references = 0 then none else
                    some { old := old, new := new, immediate := decide (mode = 2), references := references, cell := n } }
                gates := t.gates
                slate := { d.slate with cursor := n, taken := d.slate.taken.set n (decide (references ≠ 0)) }
                journal := t.journal
                port := { d.port with events := t.port.events }
                mem := t.mem }
              ∧ (∀ p : Fin 96, t.track[p] =
                  if mode = 2 ∧ (d.track[p]).bank = some old ∧ ((d.track[p]).state = .loaded
                    ∨ (d.track[p]).state = .measuring ∨ (d.track[p]).state = .retestWait)
                  then { d.track[p] with bank := some new } else d.track[p])
              ∧ (∀ j : Fin 24, t.gates[j] =
                  { d.gates[j] with
                    capacity := readWord d.mem (bankBase new + 0x20 + 2 * j.val), full := (t.gates[j]).full })
              ∧ GateLaw t
              ∧ readWord t.mem (cellBase n) = (if references = 0 then 3 else 2)
              ∧ (references = 0 → readWord t.mem (cellBase n + 6) = 0 ∧ readDWord t.mem (cellBase n + 8) = 0)
              ∧ (∀ a, a < 0x2000 → ¬ AnswerByte n a → readByte t.mem a = readByte d.mem a)
              ∧ let full (j : Fin 24) : Bool :=
                  let capacity := (readWord d.mem (bankBase new + 0x20 + 2 * j.val)).toNat
                  decide (0 < capacity ∧ capacity ≤ (d.gates[j]).tally.toNat + (d.gates[j]).windows.length)
                    || (d.gates[j]).levelFull
                let w := d.writer.writeAll (d.fullRecords full) d.k d.lot.lotId
                WrittenBy t w
                ∧ t.port.events = w.events ||| (if d.fullRecords full = [] then 0 else 0x10)
                    ||| (if references = 0 then 0x02 else 0)

/-- Validation (R117, R135, R136, R138, R139, R140). Each field of the machine table or of a bank that is marked for
checking is checked against its range first, and the answer is the least offset that fails; when all pass, the
checks of R136 or R139 are made in the order of their rows, and the answer is the offset charged by the first
that fails, or that none does. A TEST_FIRE's profile is checked field by field in the same way. -/
def Obligations.ValidationChargesTheFirstFailure : Prop :=
  (∀ m : Memory,
     ((∃ o, TableFieldFails m o) → LeastFailing (validateTable m) (TableFieldFails m))
     ∧ ((∀ o, ¬ TableFieldFails m o) → FirstFailing (validateTable m) (TableCheckFails m)))
  ∧ (∀ (m : Memory) (b : Bank) (geometry : Geometry) (gates : Vector Gate 24),
       ((∃ o, BankFieldFails m b o) → LeastFailing (validateBank m b geometry gates) (BankFieldFails m b))
       ∧ ((∀ o, ¬ BankFieldFails m b o) →
           FirstFailing (validateBank m b geometry gates) (BankCheckFails m b geometry gates)))
  ∧ ∀ (m : Memory) (j : Fin 24), LeastFailing (validateProfile m j) (ProfileFails m ⟨j.val, by omega⟩)

/-- LOT_START (R25): refused outside IDLE, then for its bank parameter, then for the machine table, then for its
bank, with the region and the offset of the first failing field. -/
def Obligations.LotStartIsRefused : Prop :=
  ∀ (s : State) (n : Fin 16) (bank : Word) (lotId first : DWord), Takes s n →
    let d := s.dev
    let b : Bank := if bank = 1 then .bankA else .bankB
    ∃ t, exec (.lotStart n bank lotId first) s = .next { s with dev := t } ∧
      if d.lot.state ≠ .idle then Answered d d t n .refusedState 0 d.writer 0
      else if bank ≠ 1 ∧ bank ≠ 2 then Answered d d t n .refusedInvalid 0 d.writer 0
      else
        match validateTable d.mem, validateBank d.mem b (readGeometry d.mem) d.gates with
        | some offset, _ => Answered d d t n .refusedInvalid (BitVec.ofNat 32 (0x10000 + offset)) d.writer 0
        | none, some offset =>
          Answered d d t n .refusedInvalid (BitVec.ofNat 32 ((if b = .bankA then 0x20000 else 0x30000) + offset))
            d.writer 0
        | none, none => True

/-- LOT_START, accepted (R26, R27, R42, R49, R98, R101, R118, R131, R137): the lot opens on its bank with K and Φ 0
and an empty track, the copies are taken, test fires end with ABORTED, the gates take the capacities and their
full flags follow, drift windows and temperatures are cleared, the six heads are evaluated against the copy,
each fitted station becomes READY with the head of its side ACTIVE, or SETTLING toward a STANDBY head of its
other side, or FAILED, and the lot is RUNNING unless station 0 is FAILED, the GUARD is open or the sweep tube is
full, in that order; the cell completes with OK. The journal takes LOT_EVENT(start) with the new K (log 12), the
BIN_EVENTs of the full flags, the HEAD_EVENTs of the heads and then of the stations, in ascending order (log 12)
and for a station without a head change with the head of its side (log 26), and LOT_EVENT(halt) where the lot
opens HALTED. -/
def Obligations.LotStartOpensTheLot : Prop :=
  ∀ (s : State) (n : Fin 16) (bank : Word) (lotId first : DWord), Takes s n → StationLaw s.dev → CellLaw s.dev →
    FireLaw s.dev → s.dev.lot.state = .idle → bank = 1 ∨ bank = 2 → validateTable s.dev.mem = none →
    validateBank s.dev.mem (if bank = 1 then .bankA else .bankB) (readGeometry s.dev.mem) s.dev.gates = none →
    let d := s.dev
    let b : Bank := if bank = 1 then .bankA else .bankB
    ∃ t, exec (.lotStart n bank lotId first) s = .next { s with dev := t } ∧
      let copy := readMachineCopy d.mem
      let old (h : Fin 6) : HeadState := (d.heads[h]).state
      let new (h : Fin 6) : HeadState :=
        if old h = .offline then .offline
        else if old h = .drifted then .drifted
        else if (copy.heads[h]).fitted = true ∧ copy.geometry.stations[stationOf h] ≠ none
            ∧ (d.ports[h]).serial = some (copy.heads[h]).serial then .standby
        else .unqualified
      let own (st : Fin 3) : Fin 6 := headOf st (d.stations[st]).side
      let other (st : Fin 3) : Fin 6 := headOf st (d.stations[st]).side.other
      let cause : Option HaltCause :=
        if new (own 0) ≠ .standby ∧ new (other 0) ≠ .standby then some .primaryFailed
        else if d.sensor.guardClosed = false then some .guardOpen
        else if d.sensor.reported[(24 : Fin 25)] then some .sweepFull
        else none
      let capacity (j : Fin 24) : Word := readWord d.mem (bankBase b + 0x20 + 2 * j.val)
      let full (j : Fin 24) : Bool :=
        decide (0 < (capacity j).toNat ∧ (capacity j).toNat ≤ (d.gates[j]).tally.toNat + (d.gates[j]).windows.length)
          || (d.gates[j]).levelFull
      let heads : List Record := (List.finRange 6).filterMap (fun h =>
        if new h = old h then none else some (.headEvent h (old h) (new h) .disabled))
      let stations : List Record := (List.finRange 3).filterMap (fun st =>
        if copy.geometry.stations[st] = none then none
        else if new (own st) = .standby then some (.headEvent (own st) .standby .active .ready)
        else some (.headEvent (own st) (new (own st)) (new (own st))
          (if new (other st) = .standby then .settling else .failed)))
      let w := d.writer.writeAll ([.lotStart b lotId first] ++ d.fullRecords full ++ heads ++ stations
        ++ cause.toList.map (fun x => .lotHalt x .running)) 0 lotId
      t = { d with
        phi := 0, k := 0, track := t.track
        lot :=
          { state := if cause = none then .running else .halted, cause := cause,
            ret := if cause = none then none else some .running, lotId := lotId, nextSerial := first, active := some b,
            load := some b, counters := t.lot.counters, endCell := none, switch := none }
        heads := t.heads, stations := t.stations, gates := t.gates
        timebase := { d.timebase with interval := (readWord d.mem 0x0844).toNat }
        slate := t.slate, journal := w.journal
        port := { d.port with
          events := w.events ||| 0x26 ||| (if d.fullRecords full = [] then 0 else 0x10)
            ||| (if cause = none then 0 else 0x08) }
        held := some copy, mem := t.mem }
      ∧ (∀ p : Fin 96, t.track[p] = Pocket.empty) ∧ (∀ i : Fin 48, t.lot.counters[i] = 0)
      ∧ (∀ h : Fin 6, t.heads[h] =
          { state := if new h = .standby ∧ h = own (stationOf h) then .active else new h
            window := [], temperature := none })
      ∧ (∀ st : Fin 3, t.stations[st] =
          if copy.geometry.stations[st] = none then d.stations[st]
          else if new (own st) = .standby then { d.stations[st] with state := .ready }
          else if new (other st) = .standby then
            { d.stations[st] with state := .settling, pending := some (d.stations[st]).side.other }
          else { d.stations[st] with state := .failed })
      ∧ (∀ j : Fin 24, t.gates[j] = { d.gates[j] with capacity := capacity j, full := full j, test := none })
      ∧ GateLaw t
      ∧ t.slate.cursor = n ∧ t.slate.request = d.slate.request ∧ t.slate.scan = d.slate.scan
      ∧ (∀ m : Fin 16, t.slate.taken[m] = decide (d.slate.taken[m] = true
          ∧ ∀ j : Fin 24, (d.gates[j]).test.map (fun x => x.cell) ≠ some m))
      ∧ readWord t.mem (cellBase n) = 3 ∧ readWord t.mem (cellBase n + 6) = 0 ∧ readDWord t.mem (cellBase n + 8) = 0
      ∧ (∀ (j : Fin 24) (x : TestFire), (d.gates[j]).test = some x → readWord t.mem (cellBase x.cell) = 3
          ∧ readWord t.mem (cellBase x.cell + 6) = 5
          ∧ readDWord t.mem (cellBase x.cell + 8) = if x.edges = 0 then 0 else 1)
      ∧ (∀ a, a < 0x2000 → ¬ AnswerByte n a →
          (∀ (j : Fin 24) (x : TestFire), (d.gates[j]).test = some x → ¬ AnswerByte x.cell a) →
          readByte t.mem a = readByte d.mem a)
      ∧ ∀ a, 0x2000 ≤ a → readByte t.mem a = readByte w.mem a

/-! ## The index event -/

/-- An index event in IDLE (R7): the idle indexes rise by 1, saturating at 65,535, INDEX has registered its high
period and is not armed (R121; that the row is the registration is log 3's deduction), and nothing else changes.
Power-on and RESETn set the counter to 0, and a LOT_START does not change it. -/
def Obligations.IndexInIdleIsCounted : Prop :=
  (∀ (s : State) (load clear : Bool), s.dev.phase = .operating → s.dev.lot.state = .idle →
    ∃ t, exec (.indexEvent load clear) s = .next { s with dev := t } ∧
      t = { s.dev with
        idleIndexes := if s.dev.idleIndexes = 0xFFFF then 0xFFFF else s.dev.idleIndexes + 1
        sensor := { s.dev.sensor with index := .registered } })
  ∧ (∀ (s : State) (image : List Host.Cell),
      ∃ t, exec (.powerOn image) s = .next t ∧ t.dev.idleIndexes = 0)
  ∧ (∀ s : State, ∃ t, exec .reset s = .next t ∧ t.dev.idleIndexes = 0)
  ∧ ∀ (s : State) (n : Fin 16) (bank : Word) (lotId first : DWord),
      ∃ t, exec (.lotStart n bank lotId first) s = .next t ∧ t.dev.idleIndexes = s.dev.idleIndexes

/-- An index event in a lot (R2, R3, R14, R17, R28, R33, R114): Φ and K advance by 1, modulo P and 2^32; the sweep
fire is started in RUNNING and DRAINING, at the start of its profile, unless the event itself ends them, and
none runs otherwise; INDEX has registered its high period and is not armed (R121; log 3's deduction); and of the
rest only what the rules of the event name can change. With the record that stands at the clear position at the
check, the lot: a retirement that leaves the track EMPTY in DRAINING completes a pending LOT_END, a part over a
CARRY or EMPTY record in RUNNING or DRAINING halts it with JAM, and otherwise lot state, cause, return state,
banks and pending LOT_END stand, in HALTED always. The journal takes the HEAD_EVENTs of the switches, the
BIN_EVENTs of the windows and of the arrivals, the PART_RESULT of a retirement and the LOT_EVENT(halt) of a JAM
(this order is log 9's choice), and where the event completes a LOT_END its records, the stations in ascending
order (log 33's choice), and the flush; the events are those of these records and of the cells answered (R157).
Which record stands there is said for one that is CARRY, EMPTY or GRADED before. -/
def Obligations.IndexInALotAdvances : Prop :=
  ∀ (s : State) (load clear : Bool), s.dev.phase = .operating → Memory.wf s.dev.mem = true →
    s.dev.lot.state ≠ .idle →
    ∃ t, exec (.indexEvent load clear) s = .next { s with dev := t } ∧
      let d := s.dev
      t = { d with
        phi := (d.phi + 1) % d.geometry.p, k := d.k + 1
        track := t.track, lot := t.lot, ports := t.ports, heads := t.heads, stations := t.stations, gates := t.gates
        sweep := t.sweep, sensor := { d.sensor with index := .registered }
        slate := { d.slate with taken := t.slate.taken }, journal := t.journal
        port := { d.port with events := t.port.events }, mem := t.mem }
      ∧ (t.sweep.isSome ↔ (d.lot.state = .running ∨ d.lot.state = .draining)
          ∧ (t.lot.state = .running ∨ t.lot.state = .draining))
      ∧ (∀ (c : MachineCopy) (x : Run), d.held = some c → t.sweep = some x → x = startedRun d c 24)
      ∧ t.lot.lotId = d.lot.lotId
      ∧ (∀ h : Fin 6, (t.heads[h]).window = (d.heads[h]).window ∧ (t.heads[h]).temperature = (d.heads[h]).temperature)
      ∧ (∀ l : Fin 6, t.ports[l] =
          { d.ports[l] with slot := (t.ports[l]).slot, late := (t.ports[l]).late, tx := (t.ports[l]).tx })
      ∧ (∀ j : Fin 24, t.gates[j] =
          { d.gates[j] with
            windows := (t.gates[j]).windows, full := (t.gates[j]).full, fire := (t.gates[j]).fire
            swap := (t.gates[j]).swap })
      ∧ (∀ a, a < 0x2000 → (∀ n ∈ d.waiting, ¬ AnswerByte n a) → readByte t.mem a = readByte d.mem a)
      ∧ ∀ q : Fin 96, TurretLaw d → StationLaw d → GateLaw d → CellLaw d → d.lot.active.isSome →
          q.val < d.geometry.p → (q.val + d.phi + 1) % d.geometry.p = d.geometry.c →
          ∃ r : Pocket,
            ((d.track[q]).state = .carry ∨ (d.track[q]).state = .empty ∨ (d.track[q]).state = .graded → r = d.track[q])
            ∧ let retires : Bool := decide (clear = false ∧ r.state = .carry)
              let jams : Bool :=
                decide (clear = true ∧ (r.state = .carry ∨ r.state = .empty) ∧ d.lot.state ≠ .halted)
              let drains : Bool := decide (retires = true ∧ d.lot.state = .draining ∧ d.lot.endCell.isSome
                ∧ ∀ p : Fin 96, (t.track[p]).state = .empty)
              let ret : ReturnState := if d.lot.state = .running then .running else .draining
              let halts : List Record := if jams then [.lotHalt .jam ret] else []
              let bins := d.windowRecords (d.k + 1) ++ d.arrivalRecords t (d.k + 1)
              let w := d.indexWork t (if retires then [clearResult q r] else []) halts
              t.track[q] =
                (if retires then Pocket.empty
                  else if clear = true ∧ r.state = .empty then
                    { Pocket.empty with state := .carry, bank := d.lot.load, outcome := some .foreign }
                  else r)
              ∧ t.lot = { d.lot with
                  state := if drains then .idle else if jams then .halted else d.lot.state
                  cause := if drains then none else if jams then some .jam else d.lot.cause
                  ret := if drains then none else if jams then some ret else d.lot.ret
                  active := if drains then none else d.lot.active
                  load := if drains then none else d.lot.load
                  endCell := if drains then none else d.lot.endCell
                  nextSerial := t.lot.nextSerial, counters := t.lot.counters, switch := t.lot.switch }
              ∧ (drains = true →
                  (∀ st : Fin 3, t.stations[st] =
                    { state := .disabled, side := (d.stations[st]).pending.getD (d.stations[st]).side, pending := none,
                      select := none })
                  ∧ (∀ h : Fin 6, (t.heads[h]).state =
                      if (d.heads[h]).state = .active then .standby else (d.heads[h]).state)
                  ∧ (∀ l : Fin 6, (t.ports[l]).slot = none ∧ (t.ports[l]).late = none)
                  ∧ (∀ j : Fin 24, (t.gates[j]).fire = none)
                  ∧ ∀ c, d.lot.endCell = some c → t.slate.taken[c] = false ∧ readWord t.mem (cellBase c) = 3
                      ∧ readWord t.mem (cellBase c + 6) = 0 ∧ readDWord t.mem (cellBase c + 8) = 0)
              ∧ WrittenBy t w
              ∧ t.port.events = w.events ||| (if d.switchRecords = [] then 0 else 0x20) ||| (if bins = [] then 0 else 0x10)
                  ||| (if jams then 0x08 else 0) ||| (if t.slate.taken = d.slate.taken then 0 else 0x02)
                  ||| (if drains then 0x04 ||| (if d.drainRecords = [] then 0 else 0x20) else 0)

/-- The load position (R10, R24): in RUNNING an EMPTY record that comes to position 0 with a part in front of the
sensor becomes LOADED with the next lot serial and the load bank, and loaded and the next serial rise; with no
part, or in DRAINING, it stays EMPTY. A record that is not EMPTY there is not loaded, and one that is LOADED,
RETEST_WAIT, GRADED or CARRY is left as it is. -/
def Obligations.IndexLoadsAtPositionZero : Prop :=
  ∀ (s : State) (load clear : Bool) (q : Fin 96), s.dev.phase = .operating → TurretLaw s.dev →
    s.dev.lot.state = .running ∨ s.dev.lot.state = .draining →
    q.val < s.dev.geometry.p → (q.val + s.dev.phi + 1) % s.dev.geometry.p = 0 →
    ∃ t, exec (.indexEvent load clear) s = .next { s with dev := t } ∧
      let d := s.dev
      if (d.track[q]).state = .empty ∧ d.lot.state = .running ∧ load = true then
        t.track[q] =
          { Pocket.empty with state := .loaded, serial := some d.lot.nextSerial, bank := d.lot.load }
        ∧ t.lot.nextSerial = d.lot.nextSerial + 1
        ∧ (t.lot.counters[(0 : Fin 48)]).toNat = min 0xFFFFFFFF ((d.lot.counters[(0 : Fin 48)]).toNat + 1)
      else
        ((d.track[q]).state ≠ .measuring → (d.track[q]).state ≠ .fired → t.track[q] = d.track[q])
        ∧ t.lot.nextSerial = d.lot.nextSerial
        ∧ t.lot.counters[(0 : Fin 48)] = d.lot.counters[(0 : Fin 48)]

/-- A LOADED or RETEST_WAIT pocket that comes to a fitted station (R11, R48, R54, R91, R130). A station that is
READY, or whose pending switch is applied at the event, makes it MEASURING if it has an attempt left: its
attempts rise, and the port of the active side holds its PART trigger with the low 8 bits of K, waiting for the
contact delay, with the relay settle time added where the switch is applied, in sixteenths of a µs, or sent at
the event where the delay is 0 (the bytes last sent are held: log 19). The retests made rise by 1, saturating,
for each pocket that the event gives its second or a later attempt (R35), and for no other: a RETEST_WAIT pocket
has had one. With no attempt left it stays as it is. A FAILED station leaves it to a later fitted station, and
decides it without one if none remains. -/
def Obligations.IndexWorksAtAStation : Prop :=
  ∀ (s : State) (load clear : Bool) (st : Fin 3) (x : Nat) (q : Fin 96) (c : MachineCopy) (b : Bank),
    s.dev.phase = .operating → TurretLaw s.dev → StationLaw s.dev →
    s.dev.lot.state = .running ∨ s.dev.lot.state = .draining →
    s.dev.held = some c → c.geometry.stations[st] = some x →
    q.val < c.geometry.p → (q.val + s.dev.phi + 1) % c.geometry.p = x →
    (s.dev.track[q]).state = .loaded ∨ (s.dev.track[q]).state = .retestWait → (s.dev.track[q]).bank = some b →
    (s.dev.stations[st]).state ≠ .disabled →
    ∃ t, exec (.indexEvent load clear) s = .next { s with dev := t } ∧
      let d := s.dev
      let y := d.stations[st]
      let retests : Nat := (List.finRange 96).countP (fun p =>
        decide ((t.track[p]).attempts = (d.track[p]).attempts + 1 ∧ 2 ≤ (t.track[p]).attempts))
      let delay : Nat := 16 * (c.contactDelay + if y.pending = none then 0 else c.relaySettle)
      let tag : Byte := (d.k + 1).setWidth 8
      let range : Byte := (readWord d.mem (bankBase b + 4)).setWidth 8
      let samples : Byte := (readWord d.mem (bankBase b + 6)).setWidth 8
      t.track[q] = stationed d b st x d.track[q]
      ∧ (t.lot.counters[(15 : Fin 48)]).toNat = min 0xFFFFFFFF ((d.lot.counters[(15 : Fin 48)]).toNat + retests)
      ∧ (y.working = .ready ∧ (d.track[q]).attempts < 1 + (readWord d.mem (bankBase b + 0x0C)).toNat →
          t.track[q] = { d.track[q] with state := .measuring, attempts := (d.track[q]).attempts + 1 }
          ∧ (1 ≤ (d.track[q]).attempts → min 0xFFFFFFFF ((d.lot.counters[(15 : Fin 48)]).toNat + 1)
              ≤ (t.lot.counters[(15 : Fin 48)]).toNat)
          ∧ (t.ports[headOf st y.workingSide]).slot = some
              { purpose := .part q, tag := tag
                sending := if delay = 0 then .sent range samples else .waiting delay }
          ∧ (delay = 0 →
              (t.ports[headOf st y.workingSide]).tx = [1, tag, range, samples, 1 ^^^ range, tag ^^^ samples]))

/-- Departures (R8, R83, R88, R89, R90, R92): a MEASURING pocket that an index event in RUNNING or DRAINING moves
off its station has its trigger ended and suffers NO_READING, decided at the position it held; a LOADED or
RETEST_WAIT pocket that is past every fitted station is decided without one. The record so decided then meets
the position it comes to, a station or its target gate, at the same event. A map entry of 24 to 0xFFFE is taken
as SWEEP (log 16's choice). -/
def Obligations.IndexSettlesDepartures : Prop :=
  ∀ (s : State) (load clear : Bool) (q : Fin 96) (x : Nat) (b : Bank), s.dev.phase = .operating → TurretLaw s.dev →
    StationLaw s.dev → GateLaw s.dev → s.dev.lot.state = .running ∨ s.dev.lot.state = .draining →
    q.val < s.dev.geometry.p → (q.val + s.dev.phi) % s.dev.geometry.p = x →
    x + 1 < s.dev.geometry.p → s.dev.geometry.c ≠ x + 1 → (s.dev.track[q]).bank = some b →
    (∀ st : Fin 3, s.dev.geometry.stations[st] = some (x + 1) → (s.dev.stations[st]).state ≠ .disabled) →
    ∃ t, exec (.indexEvent load clear) s = .next { s with dev := t } ∧
      let d := s.dev
      let r := d.track[q]
      (r.state = .measuring →
        t.track[q] = workedAt d b (x + 1) (missedAt d b x r)
        ∧ ((t.track[q]).state ≠ .measuring →
            ∀ (l : Fin 6) (g : Trigger), (t.ports[l]).slot = some g → g.purpose ≠ .part q))
      ∧ (r.state = .loaded ∨ r.state = .retestWait → (∀ st : Fin 3, (d.geometry.stations[st]).getD 0 < x + 1) →
          t.track[q] = workedAt d b (x + 1) (withoutStation d b r))

/-- An arrival (R102, R103, R104, R107, R108, R109, R113): the gate is treated first, then a GRADED pocket that
comes to its target gate fires it if it is in SORT, not offline, not full and of capacity above 0: its window
opens and its fire starts, in DELAY, or in HIT where the fire delay is 0, its output held off while GUARD is
open. If not, it is redirected once to the alternate of its grade beyond the gate, and becomes CARRY with
BIN_UNAVAILABLE otherwise. That a gate is treated at the event before its arrival follows R109. -/
def Obligations.IndexTakesAnArrival : Prop :=
  ∀ (s : State) (load clear : Bool) (j : Fin 24) (y : Nat) (q : Fin 96), s.dev.phase = .operating → TurretLaw s.dev →
    GateLaw s.dev → s.dev.lot.state = .running ∨ s.dev.lot.state = .draining →
    s.dev.geometry.gates[j] = some y → q.val < s.dev.geometry.p → (q.val + s.dev.phi + 1) % s.dev.geometry.p = y →
    (s.dev.track[q]).state = .graded → (s.dev.track[q]).target = some j → (s.dev.track[q]).bank.isSome →
    ∃ t, exec (.indexEvent load clear) s = .next { s with dev := t } ∧
      let d := s.dev
      let g := d.gates[j]
      t.track[q] = arrived d j y d.track[q]
      ∧ (if g.takesAt (d.k + 1) = true then
          (t.track[q]).state = .fired
          ∧ (t.gates[j]).windows = g.keptAt (d.k + 1) ++ [{ pocket := q, k := d.k + 1 }]
          ∧ (t.lot.state = .running ∨ t.lot.state = .draining →
              ∀ c, d.held = some c → (t.gates[j]).fire =
                some { pocket := q, k := d.k + 1, run := startedRun d c ⟨j.val, by omega⟩ })
        else (t.gates[j]).windows = g.keptAt (d.k + 1) ∧ (t.gates[j]).fire = none)

/-- The clear check (R14, R17, R19, R28, R35, R148): an empty pocket of a CARRY record retires with its PART_RESULT,
counted under its outcome, its grade if it is GRADED, and as redirected if it was, and a BANK_SWITCH whose old
bank no record names any more completes; a part over a CARRY or an EMPTY record requests a JAM halt in RUNNING
and DRAINING, with its LOT_EVENT(halt) and the HALT event, and over an EMPTY one makes it FOREIGN with the load
bank, counted. The journal takes these records after those of the event's switches and gates (log 9's choice),
and where a LOT_END completes at the event the stations follow in ascending order (log 33's choice). That a
record without an outcome is counted as ABORTED is log 16's choice. -/
def Obligations.IndexChecksTheClearPosition : Prop :=
  ∀ (s : State) (load clear : Bool) (q : Fin 96), s.dev.phase = .operating → TurretLaw s.dev →
    s.dev.lot.state ≠ .idle →
    q.val < s.dev.geometry.p → (q.val + s.dev.phi + 1) % s.dev.geometry.p = s.dev.geometry.c →
    (s.dev.track[q]).state = .carry ∨ (s.dev.track[q]).state = .empty →
    ∃ t, exec (.indexEvent load clear) s = .next { s with dev := t } ∧
      let d := s.dev
      (if clear = true then
        t.lot.state = .halted
        ∧ (d.lot.state = .running → t.lot.cause = some .jam ∧ t.lot.ret = some .running)
        ∧ (d.lot.state = .draining → t.lot.cause = some .jam ∧ t.lot.ret = some .draining)
        ∧ (d.lot.state = .halted → t.lot.cause = d.lot.cause ∧ t.lot.ret = d.lot.ret)
        ∧ t.track[q] =
            if (d.track[q]).state = .empty then
              { Pocket.empty with state := .carry, bank := d.lot.load, outcome := some .foreign }
            else d.track[q]
      else
        if (d.track[q]).state = .carry then t.track[q] = Pocket.empty else t.track[q] = d.track[q])
      ∧ (∀ i : Fin 48, i ≠ 0 → i ≠ 15 → (t.lot.counters[i]).toNat = min 0xFFFFFFFF ((d.lot.counters[i]).toNat +
          (if clear = true then (if (d.track[q]).state = .empty ∧ i = 1 then 1 else 0)
            else if (d.track[q]).state ≠ .carry then 0
            else if (d.track[q]).outcome.map (fun o => 2 + o.code.val) = some i.val then 1
            else if (d.track[q]).outcome = some .graded ∧ (d.track[q]).grade.map (fun c => 16 + c.val) = some i.val then 1
            else if (d.track[q]).redirected = true ∧ i = 14 then 1
            else if (d.track[q]).outcome = none ∧ i = 13 then 1 else 0)))
      ∧ (Memory.wf d.mem = true → StationLaw d → GateLaw d → CellLaw d → d.lot.active.isSome →
          let retires : Prop := clear = false ∧ (d.track[q]).state = .carry
          let results : List Record :=
            if clear = false ∧ (d.track[q]).state = .carry then [clearResult q d.track[q]] else []
          let halts : List Record :=
            if clear = true ∧ d.lot.state ≠ .halted then
              [.lotHalt .jam (if d.lot.state = .running then .running else .draining)]
            else []
          WrittenBy t (d.indexWork t results halts)
          ∧ (clear = true → d.lot.state ≠ .halted → t.port.events ||| 0x08 = t.port.events)
          ∧ ∀ sw, d.lot.switch = some sw →
              if retires ∧ ∀ p : Fin 96, (t.track[p]).state = .empty ∨ (t.track[p]).bank ≠ some sw.old then
                t.lot.switch = none ∧ t.slate.taken[sw.cell] = false ∧ readWord t.mem (cellBase sw.cell) = 3
                ∧ readWord t.mem (cellBase sw.cell + 6) = 0
                ∧ readDWord t.mem (cellBase sw.cell + 8) = BitVec.ofNat 32 sw.references
              else t.lot.switch = some sw)

/-- An index event in HALTED (R15): a MEASURING pocket, a LOADED or RETEST_WAIT pocket that comes to a fitted
station or past the last one, and a GRADED pocket that comes to its target gate become CARRY with SKIPPED; every
other record that holds no window and does not come to the clear position stays as it is. An index event in
RUNNING or DRAINING (R1, R4, R11, R12, R18) leaves every record that meets no work: an EMPTY one away from load
and clear position, a CARRY one away from the clear position, a GRADED one that does not come to its target
gate, and a LOADED or RETEST_WAIT one that comes to no station and has one ahead. In each lot state the EMPTY
records from P on stay EMPTY. -/
def Obligations.IndexSkipsInAHaltAndLeavesTheRest : Prop :=
  (∀ (s : State) (load clear : Bool) (q : Fin 96) (x : Nat), s.dev.phase = .operating → TurretLaw s.dev →
     s.dev.lot.state = .halted → q.val < s.dev.geometry.p → (q.val + s.dev.phi + 1) % s.dev.geometry.p = x →
     x ≠ s.dev.geometry.c → (s.dev.track[q]).state ≠ .fired →
     ∃ t, exec (.indexEvent load clear) s = .next { s with dev := t } ∧
       let r := s.dev.track[q]
       let g := s.dev.geometry
       let waits := r.state = .loaded ∨ r.state = .retestWait
       if r.state = .measuring
         ∨ (waits ∧ ((∃ st : Fin 3, g.stations[st] = some x) ∨ ∀ (st : Fin 3), g.stations[st].getD 0 < x))
         ∨ (r.state = .graded ∧ ∃ j : Fin 24, r.target = some j ∧ g.gates[j] = some x)
       then t.track[q] = { r with state := .carry, outcome := some .skipped, target := none }
       else t.track[q] = r)
  ∧ (∀ (s : State) (load clear : Bool) (q : Fin 96) (x : Nat), s.dev.phase = .operating → TurretLaw s.dev →
      s.dev.lot.state = .running ∨ s.dev.lot.state = .draining →
      q.val < s.dev.geometry.p → (q.val + s.dev.phi + 1) % s.dev.geometry.p = x →
      ∃ t, exec (.indexEvent load clear) s = .next { s with dev := t } ∧
        let r := s.dev.track[q]
        let g := s.dev.geometry
        ((r.state = .empty ∧ x ≠ 0 ∧ x ≠ g.c)
          ∨ (r.state = .carry ∧ x ≠ g.c)
          ∨ (r.state = .graded ∧ ∀ j : Fin 24, r.target = some j → g.gates[j] ≠ some x)
          ∨ ((r.state = .loaded ∨ r.state = .retestWait) ∧ (∀ st : Fin 3, g.stations[st] ≠ some x)
            ∧ ∃ (st : Fin 3) (y : Nat), g.stations[st] = some y ∧ x < y) →
          t.track[q] = r))
  ∧ (∀ (s : State) (load clear : Bool) (q : Fin 96), s.dev.phase = .operating → TurretLaw s.dev →
      s.dev.lot.state ≠ .idle → s.dev.geometry.p ≤ q.val → (s.dev.track[q]).state = .empty →
      ∃ t, exec (.indexEvent load clear) s = .next { s with dev := t } ∧ t.track[q] = s.dev.track[q])

/-- At every index event in a lot each gate is treated (R109, R110, R115): no fire of an earlier event is left; a
window whose fire is still in DELAY is removed and its pocket becomes CARRY with EJECT_MISSED, a window two
index events old is closed and its pocket becomes CARRY with EJECT_UNCONFIRMED, each keeping its target gate,
and the others stand with their FIRED pockets; a BIN_SWAP_BEGIN in progress completes with OK and the tally when
this empties the gate's windows. A new window, and a fire with it, is that of a pocket that the event brings to
the gate in RUNNING or DRAINING. A pocket that comes to the clear position at the event meets the clear check
besides. -/
def Obligations.IndexEndsFiresAndWindows : Prop :=
  ∀ (s : State) (load clear : Bool), s.dev.phase = .operating → Memory.wf s.dev.mem = true → TurretLaw s.dev →
    WindowLaw s.dev → CellLaw s.dev → s.dev.lot.state ≠ .idle →
    ∃ t, exec (.indexEvent load clear) s = .next { s with dev := t } ∧
      let d := s.dev
      let k := d.k + 1
      ∀ j : Fin 24,
        let g := d.gates[j]
        (∀ f, (t.gates[j]).fire = some f → f.k = k ∧ ({ pocket := f.pocket, k := f.k } : Window) ∈ (t.gates[j]).windows)
        ∧ (∀ w ∈ (t.gates[j]).windows, w ∈ g.keptAt k
          ∨ w.k = k ∧ d.lot.state ≠ .halted ∧ (t.track[w.pocket]).state = .fired
            ∧ d.geometry.gates[j] = some ((w.pocket.val + d.phi + 1) % d.geometry.p))
        ∧ (∀ w ∈ g.keptAt k, w ∈ (t.gates[j]).windows)
        ∧ (∀ w ∈ g.windows, (w.pocket.val + d.phi + 1) % d.geometry.p ≠ d.geometry.c →
            let missed : Bool := match g.fire with
              | some f => decide (f.run.phase = .delay ∧ f.pocket = w.pocket ∧ f.k = w.k)
              | none => false
            t.track[w.pocket] =
              if missed then { d.track[w.pocket] with state := .carry, outcome := some .ejectMissed }
              else if w.k = d.k - 1 then { d.track[w.pocket] with state := .carry, outcome := some .ejectUnconfirmed }
              else d.track[w.pocket])
        ∧ (∀ n, g.swap = some n →
            if g.windows ≠ [] ∧ g.keptAt k = [] then
              (t.gates[j]).swap = none ∧ t.slate.taken[n] = false ∧ readWord t.mem (cellBase n) = 3
              ∧ readWord t.mem (cellBase n + 6) = 0 ∧ readDWord t.mem (cellBase n + 8) = g.tally.setWidth 32
            else (t.gates[j]).swap = some n)

/-- The Head Selector at an index event in a lot (R16, R48, R53, R55, R56). A pending switch is applied: the station
becomes READY on the new side, the head there ACTIVE and the former ACTIVE head STANDBY, with the HEAD event,
and a HEAD_SELECT that waits completes with OK and the side; a station without one stays as it is. Every trigger
still outstanding is ended as late. In RUNNING and DRAINING each STANDBY head of a fitted station, and the
ACTIVE head of station 0 while the record that comes to S0 is EMPTY, is then sent a REFERENCE trigger with the
event's tag, the held range and 16 samples; no other head is, and none in HALTED. Where the event itself
completes a LOT_END, the lot's end follows (R50, R58). The bytes last sent are held by log 19's choice. -/
def Obligations.IndexAppliesSwitchesAndReferences : Prop :=
  ∀ (s : State) (load clear : Bool) (c : MachineCopy), s.dev.phase = .operating → Memory.wf s.dev.mem = true →
    TurretLaw s.dev → StationLaw s.dev → CellLaw s.dev → s.dev.lot.state ≠ .idle → s.dev.held = some c →
    ∃ t, exec (.indexEvent load clear) s = .next { s with dev := t } ∧
      let d := s.dev
      (∀ (st : Fin 3) (side : Side), (d.stations[st]).pending = some side →
        t.port.events ||| 0x20 = t.port.events
        ∧ ∀ n, (d.stations[st]).select = some n → t.slate.taken[n] = false ∧ readWord t.mem (cellBase n) = 3
            ∧ readWord t.mem (cellBase n + 6) = 0
            ∧ readDWord t.mem (cellBase n + 8) = if side = .sideA then 0 else 1)
      ∧ (t.lot.state ≠ .idle →
          (∀ st : Fin 3,
            let y := d.stations[st]
            let before (side : Side) : HeadState := (d.heads[headOf st side]).state
            let after (side : Side) : HeadState := (t.heads[headOf st side]).state
            match y.pending with
            | none => t.stations[st] = y ∧ ∀ side, after side = before side
            | some side =>
              t.stations[st] = { state := .ready, side := side, pending := none, select := none }
              ∧ after side = .active
              ∧ (side ≠ y.side → after y.side = if before y.side = .active then .standby else before y.side)
              ∧ (side = y.side → after y.side.other = before y.side.other))
          ∧ ∀ h : Fin 6,
            let late : Option LateMark := match (d.ports[h]).slot with
              | some g => some { kind := g.purpose.kind, tag := g.tag }
              | none => (d.ports[h]).late
            let now := (t.heads[h]).state
            let due : Prop := d.lot.state ≠ .halted ∧ ∃ x, c.geometry.stations[stationOf h] = some x ∧ (now = .standby
              ∨ stationOf h = 0 ∧ now = .active ∧ ∀ q : Fin 96, q.val < c.geometry.p →
                  (q.val + d.phi + 1) % c.geometry.p = x → (d.track[q]).state = .empty)
            let tag : Byte := (d.k + 1).setWidth 8
            let range : Byte := BitVec.ofNat 8 (c.heads[h]).range
            (due → t.ports[h] = { d.ports[h] with
              slot := some { purpose := .reference, tag := tag, sending := .sent range 16 }, late := late
              tx := [2, tag, range, 16, 2 ^^^ range, tag ^^^ 16] })
            ∧ (¬ due → (t.ports[h]).late = late ∧ ∀ g, (t.ports[h]).slot = some g →
                d.lot.state ≠ .halted ∧ ∃ q : Fin 96, g.purpose = .part q))

/-! ## Drops -/

/-- DROP_EDGE (R111, R115, R118): a gate under test counts the edge; with no window open it is stray; otherwise it
confirms the oldest window: the tally rises, the pocket retires with this gate, a fire of that window still in
DELAY ends, a bank switch whose old bank it releases and a swap begin whose last window it was complete, the
full flag is re-evaluated after them (log 20), and the completion of LOT_END is tested last. The line is not
armed afterwards (R122; that the row is the registration is log 3's deduction). A record without an outcome is
counted as ABORTED (log 16's choice). -/
def Obligations.DropEdgeIsAttributed : Prop :=
  ∀ (s : State) (j : Fin 24), s.dev.phase = .operating → Memory.wf s.dev.mem = true → GateLaw s.dev → WindowLaw s.dev →
    CellLaw s.dev →
    ∃ t, exec (.dropEdge j) s = .next { s with dev := t } ∧
      let d : Device := { s.dev with sensor := { s.dev.sensor with drops := s.dev.sensor.drops.set j false } }
      let g := d.gates[j]
      match g.test, g.windows with
      | some u, _ =>
        let u' : TestFire := { u with edges := if u.edges = 0xFF then 0xFF else u.edges + 1 }
        t = { d with gates := d.gates.set j { g with test := some u' } }
      | none, [] => t = { d with gates := d.gates.set j { g with stray := if g.stray = 0xFFFF then 0xFFFF else g.stray + 1 } }
      | none, w :: rest =>
        let r := d.track[w.pocket]
        let full := decide (0 < g.capacity.toNat ∧ g.capacity.toNat ≤ g.tally.toNat + 1 + rest.length) || g.levelFull
        let freed : Option PendingSwitch :=
          match d.lot.switch with
          | some sw => if (d.track.set w.pocket Pocket.empty).toList.countP
              (fun r => decide (r.state ≠ .empty ∧ r.bank = some sw.old)) = 0 then some sw else none
          | none => none
        let swapped : Option (Fin 16) := if rest = [] then g.swap else none
        let w1 := d.records (.partResult w.pocket r (some j))
        let w2 := if swapped.isSome then w1.produce (.binEvent j .swapBegin (g.tally + 1)) d.k d.lot.lotId else w1
        let w3 := if full = g.full then w2 else
          w2.produce (.binEvent j (if full then .full else .available) (g.tally + 1)) d.k d.lot.lotId
        ∃ e : Device,
          e = { d with
            track := d.track.set w.pocket Pocket.empty
            lot := { d.lot with
              counters := e.lot.counters, switch := if freed.isSome then none else d.lot.switch }
            gates := d.gates.set j { g with
              windows := rest, tally := g.tally + 1, full := full, swap := if swapped.isSome then none else g.swap
              fire := match g.fire with
                | some f => if f.run.phase = .delay ∧ f.pocket = w.pocket ∧ f.k = w.k then none else some f
                | none => none }
            slate := { d.slate with taken := e.slate.taken }
            journal := w3.journal, port := { d.port with events := e.port.events }, mem := e.mem }
          ∧ (∀ i : Fin 48, (e.lot.counters[i]).toNat = min 0xFFFFFFFF ((d.lot.counters[i]).toNat +
              (if r.outcome.map (fun o => 2 + o.code.val) = some i.val then 1
                else if r.outcome = some .graded ∧ r.grade.map (fun c => 16 + c.val) = some i.val then 1
                else if r.redirected ∧ i.val = 14 then 1
                else if r.outcome = none ∧ i.val = 13 then 1 else 0)))
          ∧ (∀ sw, freed = some sw → readWord e.mem (cellBase sw.cell) = 3 ∧ readWord e.mem (cellBase sw.cell + 6) = 0
              ∧ readDWord e.mem (cellBase sw.cell + 8) = BitVec.ofNat 32 sw.references ∧ e.slate.taken[sw.cell] = false)
          ∧ (∀ c, swapped = some c → readWord e.mem (cellBase c) = 3 ∧ readWord e.mem (cellBase c + 6) = 0
              ∧ readDWord e.mem (cellBase c + 8) = (g.tally + 1).setWidth 32 ∧ e.slate.taken[c] = false)
          ∧ (∀ a, a < 0x2000 → (∀ sw, freed = some sw → ¬ AnswerByte sw.cell a) →
              (∀ c, swapped = some c → ¬ AnswerByte c a) → readByte e.mem a = readByte d.mem a)
          ∧ (∀ a, 0x2000 ≤ a → readByte e.mem a = readByte w3.mem a)
          ∧ e.port.events = w3.events ||| (if swapped.isSome ∨ full ≠ g.full then 0x10 else 0)
              ||| (if freed.isSome ∨ swapped.isSome then 0x02 else 0)
          ∧ (∀ n : Fin 16, (∀ sw, freed = some sw → sw.cell ≠ n) → swapped ≠ some n →
              e.slate.taken[n] = d.slate.taken[n])
          ∧ exec .lotEndCompletion { s with dev := e } = .next { s with dev := t }

/-! ## Links and heads -/

/-- Carrier, invalid frames and silence on a link that stays in or out of LOCKED (R38, R39): carrier starts ACQUIRE;
in ACQUIRE an invalid frame or silence starts the good run again, and carrier loss leads to DOWN; in LOCKED an
invalid frame before the fourth in a row is counted; a DOWN link receives nothing (log 6, log 23). A READING or
REFERENCE frame that answers no trigger (R41): counted as late if the late mark holds its kind and tag and as
stale otherwise; no head, station or pocket changes, but for the frame that is the eighth valid one in a row in
ACQUIRE: it locks the link (R38), and its head is evaluated (R42) before the frame is counted. The order of the
records of that head change is log 11's choice. -/
def Obligations.PortEventsAndUnansweredFrames : Prop :=
  (∀ (s : State) (l : Fin 6) (c : Instr), s.dev.phase = .operating →
     c = .carrierAppears l ∨ c = .carrierLost l ∨ c = .invalidFrame l ∨ c = .silenceTimerExpiry l →
     ((s.dev.ports[l]).link = .locked →
       c = .carrierAppears l ∨ c = .invalidFrame l ∧ (s.dev.ports[l]).badRun < 3) →
     ∃ t, exec c s = .next { s with dev := t } ∧
       let x := s.dev.ports[l]
       let y : Port := match x.link with
         | .down =>
           if c = .carrierAppears l then { x with link := .acquire, goodRun := 0, badRun := 0, silence := true } else x
         | .acquire =>
           if c = .carrierAppears l then x
           else if c = .carrierLost l then
             { x with link := .down, goodRun := 0, badRun := 0, serial := none, frameErrors := 0, silence := false }
           else { x with goodRun := 0, silence := true }
         | .locked =>
           if c = .carrierAppears l then x
           else { x with
             frameErrors := if x.frameErrors = 0xFF then 0xFF else x.frameErrors + 1, badRun := x.badRun + 1,
             silence := true }
       t = { s.dev with ports := s.dev.ports.set l y })
  ∧ (∀ (s : State) (l : Fin 6) (f : HeadFrame) (kind : TriggerKind), s.dev.phase = .operating →
       (s.dev.ports[l]).link = .locked ∨ (s.dev.ports[l]).link = .acquire ∧ (s.dev.ports[l]).goodRun < 7 →
       (∀ (g : Trigger) (range samples : Byte), (s.dev.ports[l]).slot = some g → g.sending = .sent range samples →
         g.purpose.kind = kind → g.tag ≠ f.tag) →
       ∃ t, exec (if kind = .part then .readingFrame l f else .referenceFrame l f) s = .next { s with dev := t } ∧
         let x := s.dev.ports[l]
         let y : Port :=
           if x.link = .locked then { x with badRun := 0, silence := true }
           else { x with goodRun := x.goodRun + 1, silence := true }
         let z : Port :=
           if x.late = some { kind := kind, tag := f.tag } then
             { y with lateCount := if x.lateCount = 0xFFFF then 0xFFFF else x.lateCount + 1 }
           else { y with stale := if x.stale = 0xFFFF then 0xFFFF else x.stale + 1 }
         t = { s.dev with ports := s.dev.ports.set l z })
  ∧ (∀ (s : State) (l : Fin 6) (f : HeadFrame) (kind : TriggerKind), s.dev.phase = .operating →
       (s.dev.ports[l]).link = .down →
       exec (if kind = .part then .readingFrame l f else .referenceFrame l f) s = .next s)
  ∧ (∀ (s : State) (l : Fin 6) (f : HeadFrame) (kind : TriggerKind), s.dev.phase = .operating →
       Memory.wf s.dev.mem = true → StationLaw s.dev →
       (s.dev.ports[l]).link = .acquire → 7 ≤ (s.dev.ports[l]).goodRun →
       (∀ (g : Trigger) (range samples : Byte), (s.dev.ports[l]).slot = some g → g.sending = .sent range samples →
         g.purpose.kind = kind → g.tag ≠ f.tag) →
       ∃ t, exec (if kind = .part then .readingFrame l f else .referenceFrame l f) s = .next { s with dev := t } ∧
         let d := s.dev
         let x := d.ports[l]
         let y : Port := { x with link := .locked, goodRun := 0, badRun := 0, silence := true }
         let z : Port :=
           if x.late = some { kind := kind, tag := f.tag } then
             { y with lateCount := if x.lateCount = 0xFFFF then 0xFFFF else x.lateCount + 1 }
           else { y with stale := if x.stale = 0xFFFF then 0xFFFF else x.stale + 1 }
         let matched : Bool := match d.held with
           | some c => decide ((c.heads[l]).fitted = true ∧ c.geometry.stations[stationOf l] ≠ none
               ∧ x.serial = some (c.heads[l]).serial)
           | none => false
         ∃ u : Device,
           HeadChanges { d with ports := d.ports.set l y } u l (if matched = true then .standby else .unqualified)
           ∧ u.ports[l] = y ∧ t = { u with ports := u.ports.set l z })

/-- A departure from LOCKED (R39, R42): the fourth invalid frame in a row and silence lead to ACQUIRE, carrier loss
to DOWN; runs, serial and frame errors are cleared, and the head becomes OFFLINE with all that follows. The
order of the records of a head change is log 11's choice. -/
def Obligations.LostLockTakesTheHeadOffline : Prop :=
  ∀ (s : State) (l : Fin 6) (c : Instr), s.dev.phase = .operating → Memory.wf s.dev.mem = true → StationLaw s.dev →
    (s.dev.ports[l]).link = .locked →
    c = .carrierLost l ∨ c = .silenceTimerExpiry l ∨ c = .invalidFrame l ∧ 3 ≤ (s.dev.ports[l]).badRun →
    ∃ t, exec c s = .next { s with dev := t } ∧
      HeadChanges
        { s.dev with ports := s.dev.ports.set l { s.dev.ports[l] with
            link := if c = .carrierLost l then .down else .acquire, goodRun := 0, badRun := 0, serial := none,
            frameErrors := 0, silence := decide (c ≠ .carrierLost l) } } t l .offline

/-- A STATUS frame (R38, R40, R42): it gives the head serial and adds its rejects, counts as a valid frame, and in
LOCKED, the eighth frame in ACQUIRE included (log 13), its head is evaluated. The order of the records of a head
change is log 11's choice, and that a frame on a DOWN link has no effect log 23's. -/
def Obligations.StatusFrameIsTaken : Prop :=
  ∀ (s : State) (l : Fin 6) (f : HeadFrame), s.dev.phase = .operating → Memory.wf s.dev.mem = true → StationLaw s.dev →
    ∃ t, exec (.statusFrame l f) s = .next { s with dev := t } ∧
      let x := s.dev.ports[l]
      let y : Port := { x with
        serial := some f.sPos, rejects := BitVec.ofNat 8 (min 255 (x.rejects.toNat + (max 0 f.sNeg.toInt).toNat))
        silence := true }
      if x.link = .down then t = s.dev
      else if x.link = .acquire ∧ x.goodRun < 7 then
        t = { s.dev with ports := s.dev.ports.set l { y with goodRun := x.goodRun + 1 } }
      else
        let z : Port := { y with link := .locked, goodRun := if x.link = .acquire then 0 else x.goodRun, badRun := 0 }
        let e : Device := { s.dev with ports := s.dev.ports.set l z }
        let old := (s.dev.heads[l]).state
        let matched : Bool := match s.dev.held with
          | some c => decide ((c.heads[l]).fitted = true ∧ c.geometry.stations[stationOf l] ≠ none
              ∧ (c.heads[l]).serial = f.sPos)
          | none => false
        if old = .drifted then t = e
        else if matched = true ∧ (old = .active ∨ old = .standby) ∨ matched = false ∧ old = .unqualified then t = e
        else if matched = true then HeadChanges e t l .standby
        else HeadChanges e t l .unqualified

/-- An accepted READING frame (R41, R57, R61, R69, R73, R86, R87, R88, R89): the slot becomes absent, the head keeps
the temperature the conversion gives, and the pocket's record takes the Grader's decision on the result of the
conversion. That a map entry of 24 to 0xFFFE is taken as SWEEP is log 16's choice. -/
def Obligations.ReadingFrameIsGraded : Prop :=
  ∀ (s : State) (l : Fin 6) (f : HeadFrame) (q : Fin 96) (range samples : Byte) (c : MachineCopy) (b : Bank),
    s.dev.phase = .operating → (s.dev.ports[l]).link = .locked → s.dev.held = some c → range.toNat < 8 →
    (s.dev.ports[l]).slot = some { purpose := .part q, tag := f.tag, sending := .sent range samples } →
    (s.dev.track[q]).state = .measuring → (s.dev.track[q]).bank = some b →
    ∃ t, exec (.readingFrame l f) s = .next { s with dev := t } ∧
      let d := s.dev
      let r := d.track[q]
      let x := (q.val + d.phi) % c.geometry.p
      let result := convertReading f samples ((c.heads[l]).gains.toList.getD range.toNat 0) (bankNominal d.mem b)
        (bankAlpha d.mem b) (bankTRef d.mem b) (d.heads[l]).temperature
      let fixed (r : Pocket) (o : PartOutcome) (i : Nat) : Pocket :=
        let target := (readWord d.mem (bankBase b + 0x10 + 2 * i)).toNat
        if h : target < 24 then { r with state := .graded, outcome := some o, grade := none, target := some ⟨target, h⟩ }
        else { r with state := .carry, outcome := some o, grade := none, target := none }
      t = { d with
        ports := d.ports.set l { d.ports[l] with slot := none, badRun := 0, silence := true }
        heads := d.heads.set l { d.heads[l] with temperature := result.2 }
        track := d.track.set q (match result.1 with
          | .final o => if o = .openCircuit then fixed r o 0 else fixed r o 1
          | .failed e =>
            let m := { r with lastFailure := some e }
            if d.retestPossible r x then { m with state := if r.readings = [] then .loaded else .retestWait }
            else if r.readings = [] then
              (match e with
                | .contactFail => fixed m .contactFail 2
                | .noReading => fixed m .noReading 3)
            else { finalWalk d.mem m with retestLate := true }
          | .deviation dt held default =>
            let entry : Reading :=
              { station := stationOf l, side := sideOf l, deviation := dt, tempHeld := held, tempDefault := default }
            let values := r.readings.map (·.deviation) ++ [dt]
            let grown :=
              { r with readings := r.readings ++ [entry], deviation := some (roundDiv values.sum values.length) }
            if guarded d.mem b (roundDiv values.sum values.length) ∧ d.retestPossible r x then
              { grown with state := .retestWait }
            else finalWalk d.mem grown) }

/-- An accepted REFERENCE frame (R41, R43, R76): the slot becomes absent; a reference deviation is appended to the
head's drift window of eight, and with four entries or more a mean beyond the limit makes the head DRIFTED, as a
frame without a reference deviation does at once. The order of the records of a head change is log 11's choice. -/
def Obligations.ReferenceFrameTestsDrift : Prop :=
  ∀ (s : State) (l : Fin 6) (f : HeadFrame) (range samples : Byte) (c : MachineCopy), s.dev.phase = .operating →
    Memory.wf s.dev.mem = true → (s.dev.ports[l]).link = .locked → s.dev.held = some c → range.toNat < 8 →
    (s.dev.ports[l]).slot = some { purpose := .reference, tag := f.tag, sending := .sent range samples } →
    (s.dev.heads[l]).state = .standby ∨ (s.dev.heads[l]).state = .active →
    ∃ t, exec (.referenceFrame l f) s = .next { s with dev := t } ∧
      let d := s.dev
      let e : Device :=
        { d with ports := d.ports.set l { d.ports[l] with slot := none, badRun := 0, silence := true } }
      match convertReference f ((c.heads[l]).gains.toList.getD range.toNat 0) (c.heads[l]).nominal with
      | none => HeadChanges e t l .drifted
      | some dev =>
        let grown := (d.heads[l]).window ++ [dev]
        let window := if 8 < grown.length then grown.drop 1 else grown
        let u : Device := { e with heads := d.heads.set l { d.heads[l] with window := window } }
        if 4 ≤ window.length ∧ (c.heads[l]).driftLimit < (roundDiv window.sum window.length).natAbs then
          HeadChanges u t l .drifted
        else t = u

/-- Frames (R38, R53, R54, R187). The 16 bytes of a head frame are a STATUS, READING or REFERENCE frame, with its
fields at their offsets, if the last word is the XOR of the seven before it and the kind is 1, 2 or 3, and an
invalid frame otherwise. CONTACT_DELAY_EXPIRY (R53, R54, R187): the PART trigger waiting on the link is sent
with the range and N of its pocket's bank; where none waits nothing changes. That the bytes last sent are held
is log 19's choice, and that an expiry with no wait changes nothing log 6's. -/
def Obligations.FramesFollowTheirFormat : Prop :=
  (∀ (l : Fin 6) (bytes : List Byte), bytes.length = 16 →
     let word (i : Nat) : Word := bytes.getD (2 * i + 1) 0 ++ bytes.getD (2 * i) 0
     let frame : HeadFrame :=
       { tag := bytes.getD 1 0, flags := bytes.getD 2 0, n := bytes.getD 3 0, sPos := word 3 ++ word 2,
         sNeg := word 5 ++ word 4, t := word 6 }
     frameCommand l bytes =
       if word 7 ≠ word 0 ^^^ word 1 ^^^ word 2 ^^^ word 3 ^^^ word 4 ^^^ word 5 ^^^ word 6 then .invalidFrame l
       else if bytes.getD 0 0 = 1 then .statusFrame l frame
       else if bytes.getD 0 0 = 2 then .readingFrame l frame
       else if bytes.getD 0 0 = 3 then .referenceFrame l frame
       else .invalidFrame l)
  ∧ (∀ (s : State) (l : Fin 6), s.dev.phase = .operating →
       ∃ t, exec (.contactDelayExpiry l) s = .next { s with dev := t } ∧
         match (s.dev.ports[l]).slot with
         | some { purpose := .part q, tag := tag, sending := .waiting _ } =>
           ∀ b, (s.dev.track[q]).bank = some b →
             let range : Byte := (readWord s.dev.mem (bankBase b + 4)).setWidth 8
             let samples : Byte := (readWord s.dev.mem (bankBase b + 6)).setWidth 8
             t = { s.dev with ports := s.dev.ports.set l { s.dev.ports[l] with
               slot := some { purpose := .part q, tag := tag, sending := .sent range samples }
               tx := [1, tag, range, samples, 1 ^^^ range, tag ^^^ samples] } }
         | _ => t = s.dev)

/-! ## Valves -/

/-- The phases of a fire (R107, R117): a moment of the profile acts on the gate's fire, else on its test fire in
PROFILE, which then enters OBSERVE, and on output 24 on the sweep fire; a run that ends becomes absent. That
HOLD_CARRIER_PERIOD names one edge of a period is log 17's choice, that a profile with hold time 0 ends with HIT
log 22's, and that a moment of another phase changes nothing log 6's. That an output without a held copy has a
profile of zeros is log 16's choice. -/
def Obligations.ValvePhasesFollowTheProfile : Prop :=
  ∀ (s : State) (o : Fin 25) (e : PhaseEvent), s.dev.phase = .operating →
    ∃ t, exec (e.command o) s = .next { s with dev := t } ∧
      let d := s.dev
      let profile : Profile := match d.held with
        | some c => c.profiles[o]
        | none => { delay := 0, hit := 0, hold := 0, duty := 0, carrier := 0 }
      if h : o.val < 24 then
        let j : Fin 24 := ⟨o.val, h⟩
        let g := d.gates[j]
        match g.fire, g.test with
        | some f, _ =>
          let fire := (runAfter profile f.run e).map (fun r => { f with run := r })
          t = { d with gates := d.gates.set j { g with fire := fire } }
        | none, some { phase := .profile r, edges := edges, cell := cell, profile := own } =>
          let phase : TestPhase := match runAfter own r e with
            | some r' => .profile r'
            | none => .observe
          let test : TestFire := { phase := phase, edges := edges, cell := cell, profile := own }
          t = { d with gates := d.gates.set j { g with test := some test } }
        | none, _ => t = d
      else t = { d with sweep := d.sweep.bind (fun r => runAfter profile r e) }

/-- The outputs (R30, R45, R107, R113, R128, R132, R133). A valve output is high exactly while the filtered GUARD is
closed, the lot is not HALTED, and not IDLE without a test fire in PROFILE on that output's gate, and the run on
it, the gate's fire or else its test fire, or the sweep fire, is in HIT or in an on-part of HOLD and did not
start under forcing. STOP is high in HALTED, HEAD_SEL while the active side is B, LVL_DRV on the driven line.
After power-on and RESETn every one of them and IRQ are low. -/
def Obligations.OutputLinesFollowTheState : Prop :=
  (∀ (d : Device) (o : Fin 25),
     valveLine d o = true ↔
       d.sensor.guardClosed = true ∧ d.lot.state ≠ .halted
       ∧ (d.lot.state = .idle → ∃ (j : Fin 24) (u : TestFire) (r : Run), j.val = o.val ∧ (d.gates[j]).test = some u
           ∧ u.phase = .profile r)
       ∧ ∃ r : Run, r.heldOff = false ∧ (r.phase = .hit ∨ r.phase = .hold ∧ r.on = true)
         ∧ (o = 24 ∧ d.sweep = some r
           ∨ ∃ j : Fin 24, j.val = o.val ∧ ((d.gates[j]).fire.map (fun f => f.run) = some r
             ∨ (d.gates[j]).fire = none ∧ (d.gates[j]).test.map (fun u => u.phase) = some (.profile r))))
  ∧ (∀ d : Device, (stopLine d = true ↔ d.lot.state = .halted)
       ∧ (∀ st : Fin 3, headSelLine d st = true ↔ (d.stations[st]).side = .sideB)
       ∧ ∀ i : Fin 5, levelDriveLine d i = true ↔ d.sensor.driven = some i)
  ∧ ∀ (s : State) (c : Instr), (∃ image, c = .powerOn image) ∨ c = .reset →
      ∃ t, exec c s = .next { s with dev := t } ∧ stopLine t = false ∧ irq t = false
        ∧ (∀ o : Fin 25, valveLine t o = false) ∧ (∀ st : Fin 3, headSelLine t st = false)
        ∧ ∀ i : Fin 5, levelDriveLine t i = false

/-! ## Signals and the base tick -/

/-- GUARD_CHANGE (R118, R125): opening cuts every fire, ends every test fire with ABORTED, and requests a GUARD_OPEN
halt; closing changes the filtered state alone; the state already held changes nothing. That the row is the
change itself, and nothing where the state is held already, is log 5's choice. LEVEL_SWITCH_CHANGE (R96, R101,
R129): the reported state changes and its count becomes 0; a gate's switch becomes its level-full and
re-evaluates the full flag, the sweep tube's requests a SWEEP_FULL halt when it reports full. That the row is
the change itself, and nothing where the state is held already, is log 5's choice. -/
def Obligations.GuardAndLevelChangesAreHandedOn : Prop :=
  (∀ (s : State) (closed : Bool), s.dev.phase = .operating → Memory.wf s.dev.mem = true → CellLaw s.dev →
     ∃ t, exec (.guardChange closed) s = .next { s with dev := t } ∧
       let d := s.dev
       if closed = d.sensor.guardClosed then t = d
       else if closed = true then t = { d with sensor := { d.sensor with guardClosed := true, dwell := false } }
       else
         ∃ u : Device,
           u = { d with
             sensor := { d.sensor with guardClosed := false, dwell := false }
             gates := u.gates, sweep := none, slate := { d.slate with taken := u.slate.taken }
             port := { d.port with events := u.port.events }, mem := u.mem }
           ∧ (∀ j : Fin 24, u.gates[j] = { d.gates[j] with fire := none, test := none })
           ∧ (∀ (j : Fin 24) (x : TestFire), (d.gates[j]).test = some x → u.slate.taken[x.cell] = false
               ∧ readWord u.mem (cellBase x.cell) = 3 ∧ readWord u.mem (cellBase x.cell + 6) = 5
               ∧ readDWord u.mem (cellBase x.cell + 8) = if x.edges = 0 then 0 else 1)
           ∧ (∀ a, (∀ (j : Fin 24) (x : TestFire), (d.gates[j]).test = some x → ¬ AnswerByte x.cell a) →
               readByte u.mem a = readByte d.mem a)
           ∧ (∀ n : Fin 16, (∀ (j : Fin 24) (x : TestFire), (d.gates[j]).test = some x → x.cell ≠ n) →
               u.slate.taken[n] = d.slate.taken[n])
           ∧ u.port.events = d.port.events ||| (if ∀ j : Fin 24, (d.gates[j]).test = none then 0 else 0x02)
           ∧ Halts u t .guardOpen)
  ∧ (∀ (s : State) (i : Fin 25) (level : Bool), s.dev.phase = .operating → GateLaw s.dev →
       ∃ t, exec (.levelSwitchChange i level) s = .next { s with dev := t } ∧
         let d := s.dev
         let e : Device := { d with
           sensor := { d.sensor with reported := d.sensor.reported.set i level, changes := d.sensor.changes.set i 0 } }
         if level = d.sensor.reported[i] then t = d
         else if h : i.val < 24 then
           let j : Fin 24 := ⟨i.val, h⟩
           let g := d.gates[j]
           let full := decide (0 < g.capacity.toNat ∧ g.capacity.toNat ≤ g.tally.toNat + g.windows.length) || level
           let u : Device := { e with gates := d.gates.set j { g with levelFull := level, full := full } }
           if full = g.full then t = u
           else t = u.after (d.records (.binEvent j (if full then .full else .available) g.tally)) 0x10
         else if level = true then Halts e t .sweepFull
         else t = e)

/-- BASE_TICK (R124, R126, R128, R129, R131, R165): the GUARD filter with its dwell, CAL_PROTECT taken as sampled,
each switch of the driven row counted toward a change, the next line driven, a scan requested, the next tick one
interval on. The change of the filtered GUARD has the effect of GUARD_CHANGE, and then each due switch of the
row, in ascending order (log 10's choice), that of LEVEL_SWITCH_CHANGE; a tick with no opening and no due switch
leaves lot, gates, sweep, cells, journal, events and memory as they are. That GUARD is sampled before the
switches, so that a GUARD_OPEN halt comes before a SWEEP_FULL one at the same tick, is log 10's choice. -/
def Obligations.BaseTickSamplesTheLines : Prop :=
  ∀ (s : State) (guard protect : Bool) (sense : BitVec 5), s.dev.phase = .operating → Memory.wf s.dev.mem = true →
    ∃ t, exec (.baseTick guard protect sense) s = .next { s with dev := t } ∧
      let d := s.dev
      let changes : Bool := decide (guard ≠ d.sensor.guardClosed ∧ d.sensor.dwell = true)
      let opens : Prop := changes = true ∧ guard = false
      let due (i : Fin 25) : Bool := decide (d.sensor.driven.map (fun line => line.val) = some (i.val / 5)
        ∧ sense.getLsbD (i.val % 5) ≠ d.sensor.reported[i] ∧ d.sensor.changes[i] = 2)
      t = { d with
        lot := t.lot, gates := t.gates, sweep := t.sweep, sensor := t.sensor
        timebase := { interval := d.timebase.interval, due := d.timebase.interval }
        slate :=
          { taken := t.slate.taken, cursor := d.slate.cursor,
            request := if d.slate.scan.isSome then true else d.slate.request,
            scan := if d.slate.scan.isSome then d.slate.scan else some { next := d.slate.cursor + 1, left := 16 } }
        journal := t.journal, port := { d.port with events := t.port.events }, mem := t.mem }
      ∧ t.sensor.guardClosed = (if changes then guard else d.sensor.guardClosed)
      ∧ t.sensor.dwell = decide (guard ≠ d.sensor.guardClosed ∧ d.sensor.dwell = false)
      ∧ t.sensor.index = d.sensor.index ∧ t.sensor.drops = d.sensor.drops
      ∧ t.sensor.protect = protect ∧ t.sensor.driven = d.sensor.driven.map (· + 1)
      ∧ (∀ i : Fin 25,
          let row : Bool := decide (d.sensor.driven.map (fun line => line.val) = some (i.val / 5))
          let reading := sense.getLsbD (i.val % 5)
          t.sensor.reported[i] = (if due i then reading else d.sensor.reported[i])
          ∧ t.sensor.changes[i] = (if row then
              (if reading = d.sensor.reported[i] ∨ due i = true then 0 else d.sensor.changes[i] + 1) else d.sensor.changes[i])
          ∧ (∀ h : i.val < 24, (t.gates[(⟨i.val, h⟩ : Fin 24)]).levelFull =
              if due i then reading else (d.gates[(⟨i.val, h⟩ : Fin 24)]).levelFull))
      ∧ (∀ j : Fin 24, t.gates[j] =
          { d.gates[j] with
            full := (t.gates[j]).full, levelFull := (t.gates[j]).levelFull
            fire := (t.gates[j]).fire, test := (t.gates[j]).test })
      ∧ (t.lot.state ≠ d.lot.state → t.lot.state = .halted ∧ (opens
          ∨ t.sensor.reported[(24 : Fin 25)] = true ∧ d.sensor.reported[(24 : Fin 25)] = false))
      ∧ (opens → d.lot.state = .running ∨ d.lot.state = .draining →
          t.lot.state = .halted ∧ t.lot.cause = some .guardOpen)
      ∧ (∀ j : Fin 24, (opens → (t.gates[j]).fire = none ∧ (t.gates[j]).test = none)
          ∧ (¬ (opens) → (t.gates[j]).test = (d.gates[j]).test))
      ∧ (¬ opens → (∀ i : Fin 25, due i = false) →
          t.lot = d.lot ∧ t.gates = d.gates ∧ t.sweep = d.sweep ∧ t.slate.taken = d.slate.taken ∧ t.journal = d.journal
          ∧ t.port = d.port ∧ t.mem = d.mem)
      ∧ ∃ (g : Device) (e : Fin 6 → Device),
        (if changes = true then exec (.guardChange guard) s = .next { s with dev := g } else g = d)
        ∧ e 0 = { g with sensor := { g.sensor with
            dwell := decide (guard ≠ d.sensor.guardClosed ∧ d.sensor.dwell = false), protect := protect } }
        ∧ (∀ i : Fin 5,
            match d.sensor.driven with
            | none => e i.succ = e i.castSucc
            | some line =>
              let k : Fin 25 := ⟨5 * line.val + i.val, by omega⟩
              let x := e i.castSucc
              if due k = true then
                exec (.levelSwitchChange k (sense.getLsbD i.val)) { s with dev := x } = .next { s with dev := e i.succ }
              else
                let count : Fin 3 := if sense.getLsbD i.val = d.sensor.reported[k] then 0 else d.sensor.changes[k] + 1
                e i.succ = { x with sensor := { x.sensor with changes := x.sensor.changes.set k count } })
        ∧ t = { e 5 with
            sensor := { (e 5).sensor with driven := t.sensor.driven }
            slate := { (e 5).slate with request := t.slate.request, scan := t.slate.scan }
            timebase := t.timebase }

/-- A scan's visit (R163, R164, R165, R166): a POSTED cell outside the taken set is taken as the command its words
spell, with the parameters of R188; one whose owner word holds TAKEN is answered REFUSED_UNKNOWN (log 14); any
other is passed. The scan then goes on to the next cell, or after its last one starts again at the cell after
the cursor if a request is held. That a visit with no scan in progress changes nothing is log 6's choice. -/
def Obligations.ScanVisitTakesThePostedCell : Prop :=
  ∀ (s : State) (clear : Bool), s.dev.phase = .operating → Memory.wf s.dev.mem = true →
    ∃ t, exec (.scanVisit clear) s = .next { s with dev := t } ∧
      match s.dev.slate.scan with
      | none => t = s.dev
      | some x =>
        let n := x.next
        let word (o : Nat) : Word := readWord s.dev.mem (cellBase n + 0x0C + o)
        let dword (o : Nat) : DWord := readDWord s.dev.mem (cellBase n + 0x0C + o)
        let kind := readWord s.dev.mem (cellBase n + 2)
        let command : Instr :=
          if kind = 1 then .lotStart n (word 0) (dword 2) (dword 6)
          else if kind = 2 then .lotEnd n
          else if kind = 3 then .lotAbort n
          else if kind = 4 then .resume n clear
          else if kind = 5 then .bankSwitch n (word 0) (word 2)
          else if kind = 6 then .binSwapBegin n (word 0)
          else if kind = 7 then .binSwapEnd n (word 0)
          else if kind = 8 then .gateMode n (word 0) (word 2)
          else if kind = 9 then .testFire n (word 0)
          else if kind = 10 then .headSelect n (word 0) (word 2)
          else if kind = 11 then .headRequalify n (word 0)
          else if kind = 12 then .journalFlush n
          else if kind = 13 then .tallySnapshot n
          else if kind = 14 then .countersClear n
          else .unknownCommand n kind
        ∃ u : Device,
          (if s.dev.slate.taken[n] = true then u = s.dev
            else if readWord s.dev.mem (cellBase n) = 1 then exec command s = .next { s with dev := u }
            else if readWord s.dev.mem (cellBase n) = 2 then
              exec (.unknownCommand n kind) s = .next { s with dev := u }
            else u = s.dev)
          ∧ t = { u with slate :=
              if 1 < x.left then { u.slate with scan := some { next := n + 1, left := x.left - 1 } }
              else if u.slate.request then
                { u.slate with request := false, scan := some { next := u.slate.cursor + 1, left := 16 } }
              else { u.slate with scan := none } }

/-! ## The host port -/

/-- A write to NUDGE (R158, R165): a scan starts at the cell after the cursor, or the request flag is set while one
is in progress. A write to EVENTS clears each of the seven flags whose bit is 1 and leaves the others; one to
EVENT_MASK replaces the seven enable bits; IRQ follows the AND of the two (R133, R157, R158). The reads that act
on the capture hold (R155, R159): the low word of a field captures its high half, the high word returns the held
half of its own field, which empties the hold, and the current half otherwise; outside operation a read returns
0 and touches nothing else. That D0..D15 hold the word last read is log 19's choice. -/
def Obligations.HostRegistersAct : Prop :=
  (∀ (s : State) (v : Word), s.dev.phase = .operating →
     ∃ t, exec (.nudge v) s = .next { s with dev := t } ∧
       t = { s.dev with slate :=
         if s.dev.slate.scan.isSome then { s.dev.slate with request := true }
         else { s.dev.slate with scan := some { next := s.dev.slate.cursor + 1, left := 16 } } })
  ∧ (∀ (s : State) (v : Word), s.dev.phase = .operating →
       (∃ t, exec (.eventsWrite v) s = .next { s with dev := t } ∧
         (t = { s.dev with port := { s.dev.port with events := t.port.events } })
         ∧ (∀ i, i < 7 → t.port.events.getLsbD i = (s.dev.port.events.getLsbD i && !v.getLsbD i))
         ∧ (irq t = true ↔ ∃ i, i < 7 ∧ t.port.events.getLsbD i = true ∧ t.port.mask.getLsbD i = true))
       ∧ ∃ t, exec (.eventMaskWrite v) s = .next { s with dev := t } ∧
         (t = { s.dev with port := { s.dev.port with mask := t.port.mask } })
         ∧ (∀ i, i < 7 → t.port.mask.getLsbD i = v.getLsbD i)
         ∧ (irq t = true ↔ ∃ i, i < 7 ∧ t.port.events.getLsbD i = true ∧ t.port.mask.getLsbD i = true))
  ∧ (∀ (s : State) (field : HeaderField),
       let value : DWord := match field with
         | .lotIndexCount => s.dev.k
         | .nextRecordSequence => s.dev.journal.nextRecord
         | .withheldCount => s.dev.journal.withheld
         | .firstWithheldSequence => s.dev.journal.firstWithheld
       (∃ t, exec (.headerCaptureRead field) s = .next { s with dev := t } ∧
         t = { s.dev with port :=
           if s.dev.phase = .operating then
             { s.dev.port with data := value.extractLsb' 0 16, hold := some (field, value.extractLsb' 16 16) }
           else { s.dev.port with data := 0 } })
       ∧ ∃ t, exec (.headerHighWordRead field) s = .next { s with dev := t } ∧
         t = { s.dev with port :=
           if s.dev.phase = .operating then
             (match s.dev.port.hold with
               | some (tag, half) =>
                 if tag = field then { s.dev.port with data := half, hold := none }
                 else { s.dev.port with data := value.extractLsb' 16 16 }
               | none => { s.dev.port with data := value.extractLsb' 16 16 })
           else { s.dev.port with data := 0 } })

/-- A host write (R142, R143, R151, R152, R153, R182): a word that is locked or takes no host write is left, and the
write is latched, counted and reported; any other word is replaced, and a FREE written into the state word of
the page a stalled Writer waits for resumes it. The three registers with rows of their own act as those (log
24). -/
def Obligations.HostWriteMeetsTheLocks : Prop :=
  ∀ (s : State) (address : BitVec 15) (v : Word), s.dev.phase = .operating → Memory.wf s.dev.mem = true →
    ∃ t, exec (.hostWrite address v) s = .next { s with dev := t } ∧
      let d := s.dev
      let a := 2 * address.toNat
      let bankLocked (b : Bank) : Prop :=
        d.lot.load = some b ∨ ∃ p : Fin 96, (d.track[p]).state ≠ .empty ∧ (d.track[p]).bank = some b
      let locked : Prop :=
        (0x0100 ≤ a ∧ a < 0x0500 ∧ readWord d.mem (a - a % 64) = 2)
        ∨ (0x0800 ≤ a ∧ a < 0x1000 ∧ (d.lot.state ≠ .idle ∨ d.sensor.protect = true))
        ∨ (0x1000 ≤ a ∧ a < 0x1800 ∧ bankLocked .bankA) ∨ (0x1800 ≤ a ∧ a < 0x2000 ∧ bankLocked .bankB)
        ∨ (0x2000 ≤ a ∧ a < 0xC000 ∧ d.journal.isOpen = true ∧ pageBase d.journal.page = a - a % 512)
      if a = 0xC004 then exec (.eventsWrite v) s = .next { s with dev := t }
      else if a = 0xC006 then exec (.eventMaskWrite v) s = .next { s with dev := t }
      else if a = 0xC008 then exec (.nudge v) s = .next { s with dev := t }
      else
        (a < 0x0100 ∨ (0x0500 ≤ a ∧ a < 0x0800) ∨ 0xC000 ≤ a ∨ locked →
          t = { d with port := { d.port with
            latchFull := true
            firstRefused := if d.port.latchFull then d.port.firstRefused else BitVec.ofNat 16 a
            refused := if d.port.refused = 0xFFFF then 0xFFFF else d.port.refused + 1
            events := d.port.events ||| 0x40 } })
        ∧ (¬ (a < 0x0100 ∨ (0x0500 ≤ a ∧ a < 0x0800) ∨ 0xC000 ≤ a ∨ locked) →
          ∃ m : Memory, Memory.wf m = true ∧ readWord m a = v
            ∧ (∀ x, x ≠ a → x ≠ a + 1 → readByte m x = readByte d.mem x)
            ∧ (if d.journal.stalled = true ∧ a = pageBase d.journal.page ∧ v = 0 then
                t = { d with mem := m }.after (({ d.writer with mem := m } : Writer).resume d.k d.lot.lotId) 0
              else t = { d with mem := m }))

/-- What a host read returns (R120, R133, R150, R151, R154, R156, R157, R158, R159, R191, R193): in operation each
header word shows the state it names, each live bin entry its gate and entry 24 the sweep, the stored regions
the words of the exchange memory, IDENT 0x2401, RUNSTAT the lot state, banks, stall and halt cause, EVENTS and
EVENT_MASK their seven bits, and every other word 0. During a reset and initialization IDENT is the same,
RUNSTAT shows init-in-progress alone, and every other word reads 0. -/
def Obligations.HostReadsShowTheState : Prop :=
  ∀ (d : Device) (address : BitVec 15),
    let a := 2 * address.toNat
    let x := hostRead d address
    let low (v : DWord) : Word := v.extractLsb' 0 16
    let high (v : DWord) : Word := v.extractLsb' 16 16
    let flag (b : Bool) : Word := if b then 1 else 0
    let header : List Word :=
      [BitVec.ofNat 16 d.lot.state.code, BitVec.ofNat 16 d.phi, low d.k, high d.k, d.idleIndexes,
        flag d.sensor.guardClosed, flag d.sensor.protect, flag d.port.latchFull, d.port.firstRefused, d.port.refused,
        BitVec.ofNat 16 d.journal.page.val, flag d.journal.stalled, low d.journal.nextRecord, high d.journal.nextRecord,
        low d.journal.withheld, high d.journal.withheld, low d.journal.firstWithheld, high d.journal.firstWithheld]
    let link (l : Fin 6) : List Word :=
      [BitVec.ofNat 16 (d.ports[l]).link.code, (d.ports[l]).frameErrors.setWidth 16, (d.ports[l]).rejects.setWidth 16,
        (d.ports[l]).stale, (d.ports[l]).lateCount]
    let flags (j : Fin 24) : Nat :=
      (if (d.gates[j]).mode = .disabled then 1 else 0) + (if (d.gates[j]).offline then 2 else 0)
      + (if (d.gates[j]).full then 4 else 0) + (if (d.gates[j]).levelFull then 8 else 0)
      + (if (d.gates[j]).swap.isSome then 16 else 0) + (if (d.gates[j]).fire.isSome then 32 else 0)
      + (if (d.gates[j]).test.isSome then 64 else 0)
    let live (j : Fin 24) : List Word :=
      [(d.gates[j]).tally, (d.gates[j]).capacity, (d.gates[j]).stray,
        (BitVec.ofNat 8 (flags j) : Byte) ++ (BitVec.ofNat 8 (d.gates[j]).windows.length : Byte)]
    let sweep : Nat := (if d.sensor.reported[(24 : Fin 25)] then 8 else 0) + (if d.sweep.isSome then 32 else 0)
    if d.phase ≠ .operating then x = if a = 0xC000 then 0x2401 else if a = 0xC002 then 0x8000 else 0
    else
      (a < 0x40 → x = header.getD (a / 2) 0)
      ∧ (∀ l : Fin 6, ∀ i, i < 8 → a = 0x40 + 16 * l.val + 2 * i → x = (link l).getD i 0)
      ∧ (0xA0 ≤ a → a < 0x100 → x = 0)
      ∧ (∀ j : Fin 24, ∀ i, i < 4 → a = 0x500 + 8 * j.val + 2 * i → x = (live j).getD i 0)
      ∧ (0x5C0 ≤ a → a < 0x600 → x = if a = 0x5C6 then BitVec.ofNat 16 (256 * sweep) else 0)
      ∧ (0x100 ≤ a ∧ a < 0x500 ∨ 0x600 ≤ a ∧ a < 0xC000 → x = readWord d.mem a)
      ∧ (a = 0xC000 → x = 0x2401)
      ∧ (a = 0xC002 → (x.extractLsb' 0 2).toNat = d.lot.state.code ∧ (x.extractLsb' 2 2).toNat = bankCode d.lot.active
          ∧ (x.extractLsb' 4 2).toNat = bankCode d.lot.load ∧ x.getLsbD 6 = d.journal.stalled ∧ x.getLsbD 7 = false
          ∧ (x.extractLsb' 8 3).toNat = causeCode d.lot.cause ∧ x.extractLsb' 11 5 = 0)
      ∧ (a = 0xC004 → x = d.port.events.setWidth 16) ∧ (a = 0xC006 → x = d.port.mask.setWidth 16)
      ∧ (0xC008 ≤ a → x = 0)

/-! ## Arithmetic, grading, the journal -/

/-- The rounded division (R60): the result is the integer nearest to the exact quotient, and where two integers are
nearest the one farther from zero. The stages of a READING conversion (R62, R63, R64, R65, R66, R67, R68, R69,
R70, R71, R72) and of a REFERENCE conversion (R76), each tested after the one before it: c, r and v stand for
the three rounded quotients. -/
def Obligations.DivisionAndConversions : Prop :=
  (∀ (num : Int) (den : Nat), 0 < den →
     (∀ z : Int, (num - roundDiv num den * den).natAbs ≤ (num - z * den).natAbs)
     ∧ ∀ z : Int, (num - roundDiv num den * den).natAbs = (num - z * den).natAbs →
         z.natAbs ≤ (roundDiv num den).natAbs)
  ∧ (∀ (f : HeadFrame) (sent : Byte) (gain nominal : Nat) (alpha tRef : Int) (last : Option Int),
     let contact := f.flags.getLsbD 0 = true ∧ f.flags.getLsbD 1 = true
     let valid := f.flags.getLsbD 3 = true
     let c := roundDiv ((f.sPos.toInt - f.sNeg.toInt) * gain) (2 * f.n.toNat * 16777216)
     let r := roundDiv ((c - nominal) * 1000000) nominal
     let used : Int := if f.flags.getLsbD 3 then f.t.toInt else last.getD tRef
     let v := r - roundDiv (alpha * (used - tRef)) 16
     convertReading f sent gain nominal alpha tRef last =
       if f.n.toNat < 1 ∨ 16 < f.n.toNat ∨ f.n ≠ sent then (.failed .noReading, last)
       else if ¬ contact then (.failed .contactFail, last)
       else if f.flags.getLsbD 2 = true then (.final .openCircuit, last)
       else if c ≤ 0 then (.final .shortCircuit, last)
       else if r ≤ -990000 then (.final .shortCircuit, last)
       else
         (.deviation (if 999999 < v then 999999 else if v < -999999 then -999999 else v)
           (decide (¬ valid ∧ last.isSome = true)) (decide (¬ valid ∧ last = none)),
           if f.flags.getLsbD 3 then some f.t.toInt else last))
  ∧ ∀ (f : HeadFrame) (gain nominal : Nat),
      let c := roundDiv ((f.sPos.toInt - f.sNeg.toInt) * gain) (2 * f.n.toNat * 16777216)
      let r := roundDiv ((c - nominal) * 1000000) nominal
      convertReference f gain nominal =
        if f.n.toNat < 1 ∨ 16 < f.n.toNat then none
        else if f.flags.getLsbD 2 = true then none
        else if c ≤ 0 then none
        else some (if 999999 < r then 999999 else if r < -999999 then -999999 else r)

/-- The guard walk and the final walk (R81, R84): each takes the first grade in table order whose window holds D.
The retest-possible test (R83): attempts fewer than 1 plus the max retests of the record's bank, and a fitted
retest station beyond the position that is not FAILED. -/
def Obligations.GraderWalksAndRetestTest : Prop :=
  (∀ (m : Memory) (b : Bank) (dev : Int) (r : Pocket), r.bank = some b → r.deviation = some dev →
     let count := (readWord m (bankBase b + 0x0E)).toNat
     let low (g : Fin 32) := gradeLow m b g
     let high (g : Fin 32) := gradeHigh m b g
     let guard (g : Fin 32) : Int := gradeGuard m b g
     let widened (g : Fin 32) : Prop := low g - guard g ≤ dev ∧ dev ≤ high g + guard g
     let plain (g : Fin 32) : Prop := low g ≤ dev ∧ dev ≤ high g
     (guarded m b dev = true ↔ ∃ g : Fin 32, g.val < count ∧ widened g ∧ (∀ i : Fin 32, i < g → ¬ widened i)
         ∧ ¬ (low g + guard g ≤ dev ∧ dev ≤ high g - guard g) ∧ gradeRetest m b g = 1)
     ∧ (∀ g : Fin 32, g.val < count → plain g → (∀ i : Fin 32, i < g → ¬ plain i) →
         (finalWalk m r).outcome = some .graded ∧ (finalWalk m r).grade = some g
         ∧ ∀ h : (gradeTarget m b g).toNat < 24,
             (finalWalk m r).state = .graded ∧ (finalWalk m r).target = some ⟨(gradeTarget m b g).toNat, h⟩)
     ∧ ((∀ g : Fin 32, g.val < count → ¬ plain g) →
         let target := (readWord m (bankBase b + 0x18)).toNat
         (finalWalk m r).outcome = some .ungraded ∧ (finalWalk m r).grade = none
         ∧ (target < 24 ∨ target = 0xFFFF →
             (finalWalk m r).state = (if target < 24 then .graded else .carry)
             ∧ (finalWalk m r).target.map (fun j => j.val) = if target < 24 then some target else none)))
  ∧ (∀ (d : Device) (r : Pocket) (b : Bank) (position : Nat), r.bank = some b →
       (d.retestPossible r position = true ↔
         r.attempts < 1 + (readWord d.mem (bankBase b + 0x0C)).toNat
         ∧ ∃ (st : Fin 3) (x : Nat), (st = 1 ∨ st = 2) ∧ d.geometry.stations[st] = some x ∧ position < x
           ∧ (d.stations[st]).state ≠ .failed))

/-- A record produced with a page open or while stalled (R179, R180, R181): it takes the next record sequence; with
a page open and room for more than one it goes into the slot of the record count, which rises; while the awaited
page is not FREE it is withheld, the first one giving the first withheld sequence. The fifteenth record (R178,
R180, R181): the page becomes FULL with the JOURNAL event; the next page, page 0 after page 79, is opened if it
is FREE, with its header and empty slots, and waited for otherwise. The first record after initialization (R179)
opens page 0, or the page the Writer stands at, if that is FREE and goes into its slot 0, and is withheld
otherwise; a record produced while the awaited page is FREE is produced after the resumption (R182). -/
def Obligations.RecordsFillThePages : Prop :=
  (∀ (w : Writer) (r : Record) (k lotId : DWord), Memory.wf w.mem = true →
     let base := pageBase w.journal.page
     let count := (readWord w.mem (base + 2)).toNat
     let bytes := r.bytes w.journal.nextRecord k
     let t := w.produce r k lotId
     (w.journal.isOpen = true → count < 14 → bytes.length = 32 →
       t.journal = { w.journal with nextRecord := w.journal.nextRecord + 1 } ∧ t.events = w.events
       ∧ readWord t.mem (base + 2) = BitVec.ofNat 16 (count + 1)
       ∧ (∀ i, i < 32 → readByte t.mem (base + 32 + 32 * count + i) = bytes.getD i 0)
       ∧ ∀ a, (a < base + 2 ∨ base + 4 ≤ a) → (a < base + 32 + 32 * count ∨ base + 64 + 32 * count ≤ a) →
           readByte t.mem a = readByte w.mem a)
     ∧ (w.journal.isOpen = false → w.journal.stalled = true → readWord w.mem base ≠ 0 →
         w.journal.withheld ≠ 0xFFFFFFFF →
       t = { w with journal :=
         { w.journal with
           nextRecord := w.journal.nextRecord + 1
           withheld := w.journal.withheld + 1
           firstWithheld := if w.journal.withheld = 0 then w.journal.nextRecord else w.journal.firstWithheld } }))
  ∧ (∀ (w : Writer) (r : Record) (k lotId : DWord), Memory.wf w.mem = true → w.journal.isOpen = false →
       w.journal.stalled = false → (r.bytes w.journal.nextRecord k).length = 32 →
       let j := w.journal
       let base := pageBase j.page
       let t := w.produce r k lotId
       if readWord w.mem base = 0 then
         t.journal = { j with isOpen := true, nextPage := j.nextPage + 1, nextRecord := j.nextRecord + 1 }
         ∧ t.events = w.events ∧ readWord t.mem base = 1 ∧ readWord t.mem (base + 2) = 1
         ∧ readDWord t.mem (base + 4) = j.nextPage ∧ readDWord t.mem (base + 8) = j.nextRecord
         ∧ readDWord t.mem (base + 0xC) = lotId
         ∧ (∀ i, i < 32 → readByte t.mem (base + 32 + i) = (r.bytes j.nextRecord k).getD i 0)
         ∧ (∀ i, i < 512 → 16 ≤ i → (i < 32 ∨ 64 ≤ i) → readByte t.mem (base + i) = 0)
         ∧ ∀ a, (a < base ∨ base + 512 ≤ a) → readByte t.mem a = readByte w.mem a
       else
         t = { w with
           journal :=
             { j with
               isOpen := false, stalled := true, withheld := 1, firstWithheld := j.nextRecord
               nextRecord := j.nextRecord + 1 }
           events := w.events ||| 0x01 })
  ∧ (∀ (w : Writer) (r : Record) (k lotId : DWord), w.journal.isOpen = false → w.journal.stalled = true →
       readWord w.mem (pageBase w.journal.page) = 0 → w.produce r k lotId = (w.resume k lotId).produce r k lotId)
  ∧ (∀ (w : Writer) (r : Record) (k lotId : DWord), Memory.wf w.mem = true → w.journal.isOpen = true →
       (readWord w.mem (pageBase w.journal.page + 2)).toNat = 14 →
       (r.bytes w.journal.nextRecord k).length = 32 →
       let base := pageBase w.journal.page
       let next := w.journal.page + 1
       let t := w.produce r k lotId
       readWord t.mem base = 2 ∧ readWord t.mem (base + 2) = 15
       ∧ (∀ i, i < 32 → readByte t.mem (base + 480 + i) = (r.bytes w.journal.nextRecord k).getD i 0)
       ∧ t.events = w.events ||| 0x01
       ∧ (if readWord w.mem (pageBase next) = 0 then
           t.journal = { w.journal with
             nextRecord := w.journal.nextRecord + 1, page := next, isOpen := true, nextPage := w.journal.nextPage + 1 }
           ∧ readWord t.mem (pageBase next) = 1 ∧ readWord t.mem (pageBase next + 2) = 0
           ∧ readDWord t.mem (pageBase next + 4) = w.journal.nextPage
           ∧ readDWord t.mem (pageBase next + 8) = w.journal.nextRecord + 1
           ∧ readDWord t.mem (pageBase next + 0xC) = lotId
           ∧ ∀ i, i < 512 → 16 ≤ i → readByte t.mem (pageBase next + i) = 0
         else
           t.journal = { w.journal with
             nextRecord := w.journal.nextRecord + 1, page := next, isOpen := false, stalled := true, withheld := 0 })
       ∧ ∀ a, (a < base ∨ base + 512 ≤ a) → (a < pageBase next ∨ pageBase next + 512 ≤ a) →
           readByte t.mem a = readByte w.mem a)

/-- The end of a stall (R178, R182): the awaited page is opened, the withheld range is reported by a GAP record in
slot 0 which takes the next sequence and the K of the resumption, the range is emptied and the stall is over; no
event is set. With nothing withheld the page is opened empty and no record is produced. -/
def Obligations.ResumptionReportsTheGap : Prop :=
  ∀ (w : Writer) (k lotId : DWord), Memory.wf w.mem = true →
    let base := pageBase w.journal.page
    let t := w.resume k lotId
    let gap : Bool := decide (w.journal.withheld ≠ 0)
    t.journal = { w.journal with
      isOpen := true, nextPage := w.journal.nextPage + 1
      nextRecord := if gap then w.journal.nextRecord + 1 else w.journal.nextRecord
      stalled := false, withheld := 0, firstWithheld := 0 }
    ∧ t.events = w.events
    ∧ readWord t.mem base = 1 ∧ readWord t.mem (base + 2) = (if gap then 1 else 0)
    ∧ readDWord t.mem (base + 4) = w.journal.nextPage
    ∧ readDWord t.mem (base + 8) = w.journal.nextRecord ∧ readDWord t.mem (base + 0xC) = lotId
    ∧ (gap = true → readByte t.mem (base + 0x20) = 5 ∧ readDWord t.mem (base + 0x22) = w.journal.nextRecord
        ∧ readDWord t.mem (base + 0x26) = k ∧ readDWord t.mem (base + 0x2A) = w.journal.firstWithheld
        ∧ readDWord t.mem (base + 0x2E) = w.journal.withheld)
    ∧ (∀ i, i < 512 → 16 ≤ i → gap = false ∨ i < 32 ∨ i = 33 ∨ 50 ≤ i → readByte t.mem (base + i) = 0)
    ∧ ∀ a, (a < base ∨ base + 512 ≤ a) → readByte t.mem a = readByte w.mem a
end

