-- ==== Sys2Proof/Laws/Memory.lean ====
section
/-! SUPPORT. The laws of exchange memory: every write keeps the canonical form, a read after a write gives what was
written there and what was there before elsewhere. -/

namespace Sys2Proof.Machine

/-! ## The canonical form -/

theorem memoryWf_iff_pairwise (m : Memory) :
    Memory.wf m = true ↔ m.Pairwise (fun c d => c.1 < d.1) ∧ ∀ c ∈ m, c.2 ≠ 0 := by
  induction m with
  | nil => simp [Memory.wf]
  | cons c rest ih =>
    cases rest with
    | nil => simp [Memory.wf]
    | cons d rest =>
      simp only [Memory.wf, Bool.and_eq_true, decide_eq_true_eq, ih, List.pairwise_cons, List.mem_cons,
        forall_eq_or_imp]
      constructor
      · rintro ⟨⟨h1, h2⟩, ⟨h3, h4⟩, h5, h6⟩
        exact ⟨⟨⟨h1, fun x hx => lt_trans h1 (h3 x hx)⟩, h3, h4⟩, h2, h5, h6⟩
      · rintro ⟨⟨⟨h1, -⟩, h3, h4⟩, h2, h5, h6⟩
        exact ⟨⟨h1, h2⟩, ⟨h3, h4⟩, h5, h6⟩

theorem memoryWf_tail {c : Host.Cell} {m : Memory} (h : Memory.wf (c :: m) = true) : Memory.wf m = true := by
  rw [memoryWf_iff_pairwise] at h ⊢
  exact ⟨(List.pairwise_cons.mp h.1).2, fun x hx => h.2 x (List.mem_cons_of_mem _ hx)⟩

/-- What is read below the first address of a canonical memory is 0. -/
theorem readByte_eq_zero_of_lt {m : Memory} {a : Nat} (h : ∀ c ∈ m, a < c.1) : readByte m a = 0 := by
  induction m with
  | nil => rfl
  | cons c rest ih =>
    have hc := h c (List.mem_cons_self ..)
    rw [readByte, if_neg (by omega)]
    exact ih (fun x hx => h x (List.mem_cons_of_mem _ hx))

theorem mem_writeByte {m : Memory} {a : Nat} {b : Byte} {c : Host.Cell} (h : c ∈ writeByte m a b) :
    c = (a, b) ∧ b ≠ 0 ∨ c ∈ m := by
  induction m with
  | nil =>
    rw [writeByte] at h
    split at h
    · simp at h
    · rename_i hb
      exact Or.inl ⟨by simpa using h, hb⟩
  | cons d rest ih =>
    rw [writeByte] at h
    split at h
    · split at h
      · exact Or.inr h
      · rename_i hb
        rcases List.mem_cons.mp h with h | h
        · exact Or.inl ⟨h, hb⟩
        · exact Or.inr h
    · split at h
      · split at h
        · exact Or.inr (List.mem_cons_of_mem _ h)
        · rename_i hb
          rcases List.mem_cons.mp h with h | h
          · exact Or.inl ⟨h, hb⟩
          · exact Or.inr (List.mem_cons_of_mem _ h)
      · rcases List.mem_cons.mp h with h | h
        · exact Or.inr (h ▸ List.mem_cons_self ..)
        · rcases ih h with h | h
          · exact Or.inl h
          · exact Or.inr (List.mem_cons_of_mem _ h)

/-- A write keeps the canonical form. -/
theorem memoryWf_writeByte {m : Memory} (h : Memory.wf m = true) (a : Nat) (b : Byte) :
    Memory.wf (writeByte m a b) = true := by
  rw [memoryWf_iff_pairwise] at h ⊢
  refine ⟨?_, fun c hc => ?_⟩
  · induction m with
    | nil => rw [writeByte]; split <;> simp
    | cons d rest ih =>
      have hp := List.pairwise_cons.mp h.1
      rw [writeByte]
      split
      · rename_i hlt
        split
        · exact h.1
        · refine List.pairwise_cons.mpr ⟨fun x hx => ?_, h.1⟩
          rcases List.mem_cons.mp hx with rfl | hx
          · exact hlt
          · exact lt_trans hlt (hp.1 x hx)
      · split
        · rename_i heq
          split
          · exact hp.2
          · exact List.pairwise_cons.mpr ⟨fun x hx => heq ▸ hp.1 x hx, hp.2⟩
        · refine List.pairwise_cons.mpr ⟨fun x hx => ?_, ih ⟨hp.2, fun x hx => h.2 x (List.mem_cons_of_mem _ hx)⟩⟩
          rcases mem_writeByte hx with ⟨rfl, -⟩ | hx
          · show d.1 < a
            omega
          · exact hp.1 x hx
  · rcases mem_writeByte hc with ⟨rfl, hb⟩ | hc
    · exact hb
    · exact h.2 c hc

/-- A read after a write in a canonical memory. -/
theorem readByte_writeByte {m : Memory} (h : Memory.wf m = true) (a : Nat) (b : Byte) (x : Nat) :
    readByte (writeByte m a b) x = if x = a then b else readByte m x := by
  induction m with
  | nil =>
    rw [writeByte]
    by_cases hb : b = 0
    · simp [hb, readByte]
    · simp only [hb, if_false, readByte]
      by_cases hx : a = x
      · simp [hx]
      · rw [if_neg hx, if_neg (fun h => hx h.symm)]
  | cons c rest ih =>
    have hw := (memoryWf_iff_pairwise _).mp h
    have hp := List.pairwise_cons.mp hw.1
    rw [writeByte]
    split
    · rename_i hlt
      by_cases hb : b = 0
      · rw [if_pos hb]
        by_cases hx : x = a
        · rw [if_pos hx, hb]
          apply readByte_eq_zero_of_lt
          intro d hd
          rcases List.mem_cons.mp hd with rfl | hd
          · omega
          · have := hp.1 d hd
            omega
        · rw [if_neg hx]
      · rw [if_neg hb]
        by_cases hx : x = a
        · rw [readByte, if_pos hx.symm, if_pos hx]
        · rw [readByte, if_neg (fun h => hx h.symm), if_neg hx]
    · split
      · rename_i heq
        by_cases hx : x = a
        · rw [if_pos hx]
          by_cases hb : b = 0
          · rw [if_pos hb, hb]
            apply readByte_eq_zero_of_lt
            intro d hd
            have := hp.1 d hd
            omega
          · rw [if_neg hb, readByte, if_pos hx.symm]
        · rw [if_neg hx]
          have hne : ¬ c.1 = x := by omega
          by_cases hb : b = 0
          · rw [if_pos hb, readByte, if_neg hne]
          · rw [if_neg hb, readByte, if_neg (fun h => hx h.symm), readByte, if_neg hne]
      · rename_i hne
        rw [readByte]
        by_cases hc : c.1 = x
        · rw [if_pos hc, if_neg (by omega), readByte, if_pos hc]
        · rw [if_neg hc, ih (memoryWf_tail h), readByte, if_neg hc]

/-! ## Words, 32-bit fields, runs of bytes -/

theorem loByte_append_hiByte (w : Word) : hiByte w ++ loByte w = w := by
  apply BitVec.eq_of_getLsbD_eq
  intro i hi
  rw [BitVec.getLsbD_append]
  simp only [hiByte, loByte, BitVec.getLsbD_setWidth, BitVec.getLsbD_ushiftRight]
  by_cases h : i < 8
  · simp [h]
  · simp [h, show 8 + (i - 8) = i by omega, show i - 8 < 8 by omega]

theorem hiWord_append_loWord (v : DWord) : hiWord v ++ loWord v = v := by
  apply BitVec.eq_of_getLsbD_eq
  intro i hi
  rw [BitVec.getLsbD_append]
  simp only [hiWord, loWord, BitVec.getLsbD_setWidth, BitVec.getLsbD_ushiftRight]
  by_cases h : i < 16
  · simp [h]
  · simp [h, show 16 + (i - 16) = i by omega, show i - 16 < 16 by omega]

theorem memoryWf_writeWord {m : Memory} (h : Memory.wf m = true) (a : Nat) (w : Word) :
    Memory.wf (writeWord m a w) = true := memoryWf_writeByte (memoryWf_writeByte h _ _) _ _

theorem memoryWf_writeDWord {m : Memory} (h : Memory.wf m = true) (a : Nat) (v : DWord) :
    Memory.wf (writeDWord m a v) = true := memoryWf_writeWord (memoryWf_writeWord h _ _) _ _

theorem memoryWf_writeBytes (bs : List Byte) : ∀ {m : Memory}, Memory.wf m = true → ∀ a,
    Memory.wf (writeBytes m a bs) = true := by
  induction bs with
  | nil => intro m h a; exact h
  | cons b bs ih => intro m h a; exact ih (memoryWf_writeByte h a b) (a + 1)

theorem memoryWf_filter {m : Memory} (h : Memory.wf m = true) (p : Host.Cell → Bool) :
    Memory.wf (m.filter p) = true := by
  rw [memoryWf_iff_pairwise] at h ⊢
  exact ⟨h.1.filter p, fun c hc => h.2 c (List.mem_of_mem_filter hc)⟩

theorem memoryWf_clearRange {m : Memory} (h : Memory.wf m = true) (lo hi : Nat) :
    Memory.wf (clearRange m lo hi) = true := memoryWf_filter h _

/-- A memory filtered by address reads 0 outside the filter and as before inside. -/
theorem readByte_filter (m : Memory) (p : Nat → Bool) (a : Nat) :
    readByte (m.filter (fun c => p c.1)) a = if p a then readByte m a else 0 := by
  induction m with
  | nil => simp [readByte]
  | cons c rest ih =>
    by_cases hp : p c.1
    · rw [List.filter_cons_of_pos (by simpa using hp), readByte, readByte]
      by_cases hc : c.1 = a
      · rw [if_pos hc, if_pos hc, if_pos (hc ▸ hp)]
      · rw [if_neg hc, if_neg hc, ih]
    · rw [List.filter_cons_of_neg (by simpa using hp), ih, readByte]
      by_cases hc : c.1 = a
      · rw [if_neg (hc ▸ hp), if_neg (hc ▸ hp)]
      · rw [if_neg hc]

theorem readByte_clearRange (m : Memory) (lo hi a : Nat) :
    readByte (clearRange m lo hi) a = if lo ≤ a ∧ a < hi then 0 else readByte m a := by
  have h := readByte_filter m (fun x => decide (x < lo) || decide (hi ≤ x)) a
  rw [show clearRange m lo hi = m.filter (fun c => decide (c.1 < lo) || decide (hi ≤ c.1)) from rfl, h]
  by_cases h1 : a < lo
  · simp [h1, show ¬ lo ≤ a by omega]
  · by_cases h2 : hi ≤ a
    · simp [h2, show ¬ a < hi by omega]
    · simp [h1, h2, show lo ≤ a by omega, show a < hi by omega]

theorem readByte_writeWord {m : Memory} (h : Memory.wf m = true) (a : Nat) (w : Word) (x : Nat) :
    readByte (writeWord m a w) x = if x = a then loByte w else if x = a + 1 then hiByte w else readByte m x := by
  rw [writeWord, readByte_writeByte (memoryWf_writeByte h _ _), readByte_writeByte h]
  by_cases h1 : x = a
  · simp [h1]
  · by_cases h2 : x = a + 1 <;> simp [h1, h2]

/-- A byte outside the two bytes written reads as before. -/
theorem readByte_writeWord_outside {m : Memory} (h : Memory.wf m = true) {a : Nat} {w : Word} {x : Nat}
    (hx : x < a ∨ a + 2 ≤ x) : readByte (writeWord m a w) x = readByte m x := by
  rw [readByte_writeWord h, if_neg (by omega), if_neg (by omega)]

/-- A byte outside the four bytes written reads as before. -/
theorem readByte_writeDWord_outside {m : Memory} (h : Memory.wf m = true) {a : Nat} {v : DWord} {x : Nat}
    (hx : x < a ∨ a + 4 ≤ x) : readByte (writeDWord m a v) x = readByte m x := by
  rw [writeDWord, readByte_writeWord_outside (memoryWf_writeWord h _ _) (by omega),
    readByte_writeWord_outside h (by omega)]

theorem readWord_writeWord {m : Memory} (h : Memory.wf m = true) (a : Nat) (w : Word) :
    readWord (writeWord m a w) a = w := by
  rw [readWord, readByte_writeWord h, readByte_writeWord h]
  simp [loByte_append_hiByte]

theorem readWord_writeWord_outside {m : Memory} (h : Memory.wf m = true) {a : Nat} {w : Word} {x : Nat}
    (hx : x + 2 ≤ a ∨ a + 2 ≤ x) : readWord (writeWord m a w) x = readWord m x := by
  rw [readWord, readWord, readByte_writeWord_outside h (by omega), readByte_writeWord_outside h (by omega)]

theorem readWord_writeDWord_outside {m : Memory} (h : Memory.wf m = true) {a : Nat} {v : DWord} {x : Nat}
    (hx : x + 2 ≤ a ∨ a + 4 ≤ x) : readWord (writeDWord m a v) x = readWord m x := by
  rw [readWord, readWord, readByte_writeDWord_outside h (by omega), readByte_writeDWord_outside h (by omega)]

theorem readDWord_writeDWord {m : Memory} (h : Memory.wf m = true) (a : Nat) (v : DWord) :
    readDWord (writeDWord m a v) a = v := by
  rw [readDWord, writeDWord, readWord_writeWord (memoryWf_writeWord h _ _),
    readWord_writeWord_outside (memoryWf_writeWord h _ _) (by omega), readWord_writeWord h, hiWord_append_loWord]

theorem readDWord_writeWord_outside {m : Memory} (h : Memory.wf m = true) {a : Nat} {w : Word} {x : Nat}
    (hx : x + 4 ≤ a ∨ a + 2 ≤ x) : readDWord (writeWord m a w) x = readDWord m x := by
  rw [readDWord, readDWord, readWord_writeWord_outside h (by omega), readWord_writeWord_outside h (by omega)]

/-- A read after a run of bytes is written. -/
theorem readByte_writeBytes (bs : List Byte) : ∀ {m : Memory}, Memory.wf m = true → ∀ a x,
    readByte (writeBytes m a bs) x = if a ≤ x ∧ x < a + bs.length then bs.getD (x - a) 0 else readByte m x := by
  induction bs with
  | nil =>
    intro m _ a x
    rw [writeBytes, if_neg (by simp)]
  | cons b bs ih =>
    intro m h a x
    rw [writeBytes, ih (memoryWf_writeByte h a b), readByte_writeByte h]
    by_cases h1 : a + 1 ≤ x ∧ x < a + 1 + bs.length
    · rw [if_pos h1, if_pos (by simp; omega), show x - a = (x - (a + 1)) + 1 by omega]
      rfl
    · rw [if_neg h1]
      by_cases h2 : x = a
      · rw [if_pos h2, if_pos (by simp; omega), h2]
        simp
      · rw [if_neg h2, if_neg (by simp; omega)]

theorem readByte_writeBytes_outside {bs : List Byte} {m : Memory} (h : Memory.wf m = true) {a x : Nat}
    (hx : x < a ∨ a + bs.length ≤ x) : readByte (writeBytes m a bs) x = readByte m x := by
  rw [readByte_writeBytes bs h, if_neg (by omega)]

/-- Two canonical memories that read alike everywhere are equal. -/
theorem memory_ext {m m' : Memory} (h : Memory.wf m = true) (h' : Memory.wf m' = true)
    (hr : ∀ a, readByte m a = readByte m' a) : m = m' := by
  induction m generalizing m' with
  | nil =>
    cases m' with
    | nil => rfl
    | cons d rest' =>
      have hd := ((memoryWf_iff_pairwise _).mp h').2 d (List.mem_cons_self ..)
      have := hr d.1
      simp [readByte] at this
      exact absurd this.symm hd
  | cons c rest ih =>
    have hw := (memoryWf_iff_pairwise _).mp h
    cases m' with
    | nil =>
      have := hr c.1
      simp [readByte] at this
      exact absurd this (hw.2 c (List.mem_cons_self ..))
    | cons d rest' =>
      have hw' := (memoryWf_iff_pairwise _).mp h'
      have hp := List.pairwise_cons.mp hw.1
      have hp' := List.pairwise_cons.mp hw'.1
      have hcd : c.1 = d.1 := by
        rcases lt_trichotomy c.1 d.1 with hlt | heq | hgt
        · have := hr c.1
          rw [readByte, if_pos rfl, readByte_eq_zero_of_lt (m := d :: rest')] at this
          · exact absurd this (hw.2 c (List.mem_cons_self ..))
          · intro x hx
            rcases List.mem_cons.mp hx with rfl | hx
            · exact hlt
            · exact lt_trans hlt (hp'.1 x hx)
        · exact heq
        · have := hr d.1
          rw [readByte_eq_zero_of_lt (m := c :: rest), readByte, if_pos rfl] at this
          · exact absurd this.symm (hw'.2 d (List.mem_cons_self ..))
          · intro x hx
            rcases List.mem_cons.mp hx with rfl | hx
            · exact hgt
            · exact lt_trans hgt (hp.1 x hx)
      have hb : c.2 = d.2 := by
        have := hr c.1
        rw [readByte, if_pos rfl, readByte, if_pos hcd.symm] at this
        exact this
      have hrest : rest = rest' := by
        apply ih (memoryWf_tail h) (memoryWf_tail h')
        intro a
        by_cases ha : c.1 = a
        · rw [readByte_eq_zero_of_lt (fun x hx => ha ▸ hp.1 x hx),
            readByte_eq_zero_of_lt (fun x hx => ha ▸ hcd ▸ hp'.1 x hx)]
        · have := hr a
          rw [readByte, if_neg ha, readByte, if_neg (hcd ▸ ha)] at this
          exact this
      rw [hrest, Prod.ext hcd hb]

end Sys2Proof.Machine
end

