-- ==== Sys2Proof/Laws/Journal.lean ====
section
/-! SUPPORT. What the Journal Writer can do to what it works on: it keeps the canonical form of the memory, it leaves every
byte below the journal pages, and what it does depends on its own fields and on the pages alone. -/

namespace Sys2Proof.Machine

/-! ## The Writer touches the journal pages alone -/

/-- An operation keeps the canonical form and every byte below 0x2000. -/
structure PagesOnly (m m' : Memory) : Prop where
  wf : Memory.wf m' = true
  below : ∀ a, a < 0x2000 → readByte m' a = readByte m a

theorem PagesOnly.refl {m : Memory} (h : Memory.wf m = true) : PagesOnly m m := ⟨h, fun _ _ => rfl⟩

theorem PagesOnly.trans {m m' m'' : Memory} (h : PagesOnly m m') (h' : PagesOnly m' m'') : PagesOnly m m'' :=
  ⟨h'.wf, fun a ha => (h'.below a ha).trans (h.below a ha)⟩

theorem pageBase_ge (n : Fin 80) : 0x2000 ≤ pageBase n := by unfold pageBase; omega

theorem pagesOnly_writeWord {m : Memory} (h : Memory.wf m = true) {a : Nat} (ha : 0x2000 ≤ a) (w : Word) :
    PagesOnly m (writeWord m a w) :=
  ⟨memoryWf_writeWord h a w, fun _ hx => readByte_writeWord_outside h (by omega)⟩

theorem pagesOnly_writeDWord {m : Memory} (h : Memory.wf m = true) {a : Nat} (ha : 0x2000 ≤ a) (v : DWord) :
    PagesOnly m (writeDWord m a v) :=
  ⟨memoryWf_writeDWord h a v, fun _ hx => readByte_writeDWord_outside h (by omega)⟩

theorem pagesOnly_writeBytes {m : Memory} (h : Memory.wf m = true) {a : Nat} (ha : 0x2000 ≤ a) (bs : List Byte) :
    PagesOnly m (writeBytes m a bs) :=
  ⟨memoryWf_writeBytes bs h a, fun _ hx => readByte_writeBytes_outside h (by omega)⟩

theorem pagesOnly_clearRange {m : Memory} (h : Memory.wf m = true) {lo : Nat} (ha : 0x2000 ≤ lo) (hi : Nat) :
    PagesOnly m (clearRange m lo hi) :=
  ⟨memoryWf_clearRange h lo hi, fun _ hx => by rw [readByte_clearRange, if_neg (by omega)]⟩

theorem Writer.openPage_pagesOnly {w : Writer} (h : Memory.wf w.mem = true) (n : Fin 80) (l : DWord) :
    PagesOnly w.mem (w.openPage n l).mem := by
  have hb := pageBase_ge n
  have h0 := pagesOnly_clearRange h hb (pageBase n + 0x200)
  have h1 := h0.trans (pagesOnly_writeWord h0.wf (a := pageBase n) hb 1)
  have h2 := h1.trans (pagesOnly_writeWord h1.wf (a := pageBase n + 2) (by omega) 0)
  have h3 := h2.trans (pagesOnly_writeDWord h2.wf (a := pageBase n + 4) (by omega) w.journal.nextPage)
  have h4 := h3.trans (pagesOnly_writeDWord h3.wf (a := pageBase n + 8) (by omega) w.journal.nextRecord)
  unfold Writer.openPage
  dsimp only
  exact h4.trans (pagesOnly_writeDWord h4.wf (a := pageBase n + 0xC) (by omega) l)

theorem Writer.lookFor_pagesOnly {w : Writer} (h : Memory.wf w.mem = true) (n : Fin 80) (l : DWord) :
    PagesOnly w.mem (w.lookFor n l).mem := by
  unfold Writer.lookFor
  split
  · exact openPage_pagesOnly h n l
  · exact PagesOnly.refl h

theorem Writer.closePage_pagesOnly {w : Writer} (h : Memory.wf w.mem = true) (l : DWord) :
    PagesOnly w.mem (w.closePage l).mem := by
  have h0 := pagesOnly_writeWord h (pageBase_ge w.journal.page) 2
  unfold Writer.closePage
  dsimp only
  generalize hw : ({ journal := { w.journal with isOpen := false }, mem := writeWord w.mem (pageBase w.journal.page) 2, events := w.events ||| Event.journal.bit } : Writer) = w0
  have hm : w0.mem = writeWord w.mem (pageBase w.journal.page) 2 := by rw [← hw]
  rw [← hm] at h0
  exact h0.trans (lookFor_pagesOnly h0.wf _ l)

theorem Writer.writeSlot_pagesOnly {w : Writer} (h : Memory.wf w.mem = true) (bs : List Byte) (l : DWord) :
    PagesOnly w.mem (w.writeSlot bs l).mem := by
  have hb := pageBase_ge w.journal.page
  have h0 := pagesOnly_writeBytes h (a := pageBase w.journal.page + 0x20 + 32 * pageCount w.mem w.journal.page)
    (by omega) bs
  have h1 := h0.trans (pagesOnly_writeWord h0.wf (a := pageBase w.journal.page + 2) (by omega)
    (BitVec.ofNat 16 (pageCount w.mem w.journal.page + 1)))
  unfold Writer.writeSlot
  dsimp only
  split
  · generalize hw : ({ journal := w.journal, mem := writeWord (writeBytes w.mem (pageBase w.journal.page + 32 + 32 * pageCount w.mem w.journal.page) bs) (pageBase w.journal.page + 2) (BitVec.ofNat 16 (pageCount w.mem w.journal.page + 1)), events := w.events } : Writer) = w0
    have hm : w0.mem = writeWord (writeBytes w.mem (pageBase w.journal.page + 32 + 32 * pageCount w.mem w.journal.page) bs) (pageBase w.journal.page + 2) (BitVec.ofNat 16 (pageCount w.mem w.journal.page + 1)) := by rw [← hw]
    rw [← hm] at h1
    exact h1.trans (closePage_pagesOnly h1.wf l)
  · exact h1

theorem Writer.resume_pagesOnly {w : Writer} (h : Memory.wf w.mem = true) (k l : DWord) :
    PagesOnly w.mem (w.resume k l).mem := by
  have h0 := openPage_pagesOnly h w.journal.page l
  unfold Writer.resume
  dsimp only
  split
  · exact h0
  · exact h0.trans (writeSlot_pagesOnly (w := (w.openPage w.journal.page l).takeSequence) h0.wf _ l)

theorem Writer.examine_pagesOnly {w : Writer} (h : Memory.wf w.mem = true) (k l : DWord) :
    PagesOnly w.mem (w.examine k l).mem := by
  unfold Writer.examine
  split
  · exact resume_pagesOnly h k l
  · exact PagesOnly.refl h

theorem Writer.prepare_pagesOnly {w : Writer} (h : Memory.wf w.mem = true) (k l : DWord) :
    PagesOnly w.mem (w.prepare k l).mem := by
  unfold Writer.prepare
  split
  · exact PagesOnly.refl h
  · split
    · exact examine_pagesOnly h k l
    · exact lookFor_pagesOnly h _ l

/-- A production keeps the canonical form and every byte below the journal pages. -/
theorem Writer.produce_pagesOnly {w : Writer} (h : Memory.wf w.mem = true) (r : Record) (k l : DWord) :
    PagesOnly w.mem (w.produce r k l).mem := by
  have h0 := prepare_pagesOnly h k l
  unfold Writer.produce
  dsimp only
  split
  · exact h0.trans (writeSlot_pagesOnly (w := (w.prepare k l).takeSequence) h0.wf _ l)
  · exact h0

/-- A flush keeps the canonical form and every byte below the journal pages. -/
theorem Writer.flush_pagesOnly {w : Writer} (h : Memory.wf w.mem = true) (l : DWord) :
    PagesOnly w.mem (w.flush l).mem := by
  unfold Writer.flush
  split
  · exact PagesOnly.refl h
  · exact closePage_pagesOnly h l

/-! ## The Writer looks at its own fields and the pages alone -/

/-- Two Writers alike but for the bytes below the pages and for event flags `x` that the second has besides. -/
structure Tracks (x : BitVec 7) (w w' : Writer) : Prop where
  journal : w'.journal = w.journal
  events : w'.events = w.events ||| x
  wf : Memory.wf w.mem = true
  wf' : Memory.wf w'.mem = true
  above : ∀ a, 0x2000 ≤ a → readByte w'.mem a = readByte w.mem a

namespace Tracks

variable {x : BitVec 7} {w w' : Writer}

theorem readWord (t : Tracks x w w') {a : Nat} (ha : 0x2000 ≤ a) :
    Machine.readWord w'.mem a = Machine.readWord w.mem a := by
  unfold Machine.readWord; rw [t.above a ha, t.above (a + 1) (by omega)]

theorem writeWord (t : Tracks x w w') (a : Nat) (v : Word) :
    Tracks x { w with mem := writeWord w.mem a v } { w' with mem := writeWord w'.mem a v } :=
  ⟨t.journal, t.events, memoryWf_writeWord t.wf a v, memoryWf_writeWord t.wf' a v, fun b hb => by
    show readByte (Machine.writeWord w'.mem a v) b = readByte (Machine.writeWord w.mem a v) b
    rw [readByte_writeWord t.wf, readByte_writeWord t.wf', t.above b hb]⟩

theorem writeDWord (t : Tracks x w w') (a : Nat) (v : DWord) :
    Tracks x { w with mem := writeDWord w.mem a v } { w' with mem := writeDWord w'.mem a v } :=
  (t.writeWord a (loWord v)).writeWord (a + 2) (hiWord v)

theorem writeBytes (t : Tracks x w w') (a : Nat) (bs : List Byte) :
    Tracks x { w with mem := writeBytes w.mem a bs } { w' with mem := writeBytes w'.mem a bs } :=
  ⟨t.journal, t.events, memoryWf_writeBytes bs t.wf a, memoryWf_writeBytes bs t.wf' a, fun b hb => by
    show readByte (Machine.writeBytes w'.mem a bs) b = readByte (Machine.writeBytes w.mem a bs) b
    rw [readByte_writeBytes bs t.wf, readByte_writeBytes bs t.wf', t.above b hb]⟩

theorem clearRange (t : Tracks x w w') (lo hi : Nat) :
    Tracks x { w with mem := clearRange w.mem lo hi } { w' with mem := clearRange w'.mem lo hi } :=
  ⟨t.journal, t.events, memoryWf_clearRange t.wf lo hi, memoryWf_clearRange t.wf' lo hi, fun b hb => by
    show readByte (Machine.clearRange w'.mem lo hi) b = readByte (Machine.clearRange w.mem lo hi) b
    rw [readByte_clearRange, readByte_clearRange, t.above b hb]⟩

/-- The same change of the Writer's own fields. -/
theorem setJournal (t : Tracks x w w') {j j' : Journal} (h : j' = j) :
    Tracks x { w with journal := j } { w' with journal := j' } := ⟨h, t.events, t.wf, t.wf', t.above⟩

/-- The same event flag set. -/
theorem setEvents (t : Tracks x w w') (e : BitVec 7) :
    Tracks x { w with events := w.events ||| e } { w' with events := w'.events ||| e } :=
  ⟨t.journal, by show w'.events ||| e = w.events ||| e ||| x; rw [t.events]; ac_rfl, t.wf, t.wf', t.above⟩

theorem openPage (t : Tracks x w w') (n : Fin 80) (l : DWord) : Tracks x (w.openPage n l) (w'.openPage n l) := by
  have h := ((((t.clearRange (pageBase n) (pageBase n + 0x200)).writeWord (pageBase n) 1).writeWord
    (pageBase n + 2) 0).writeDWord (pageBase n + 4) w.journal.nextPage).writeDWord (pageBase n + 8) w.journal.nextRecord
  have h := (h.writeDWord (pageBase n + 0xC) l).setJournal
    (j := { w.journal with page := n, isOpen := true, nextPage := w.journal.nextPage + 1 }) rfl
  dsimp only at h
  dsimp only [Writer.openPage]
  rw [t.journal]
  exact h

theorem enterStall (t : Tracks x w w') (n : Fin 80) : Tracks x (w.enterStall n) (w'.enterStall n) := by
  have h := (t.setEvents Event.journal.bit).setJournal
    (j := { w.journal with page := n, isOpen := false, stalled := true, withheld := 0 }) rfl
  unfold Writer.enterStall
  rw [t.journal]
  exact h

theorem lookFor (t : Tracks x w w') (n : Fin 80) (l : DWord) : Tracks x (w.lookFor n l) (w'.lookFor n l) := by
  unfold Writer.lookFor pageState
  rw [t.readWord (pageBase_ge n)]
  split
  · exact t.openPage n l
  · exact t.enterStall n

theorem closePage (t : Tracks x w w') (l : DWord) : Tracks x (w.closePage l) (w'.closePage l) := by
  have h := ((t.writeWord (pageBase w.journal.page) 2).setEvents Event.journal.bit).setJournal
    (j := { w.journal with isOpen := false }) rfl
  unfold Writer.closePage
  rw [t.journal]
  exact h.lookFor _ l

theorem writeSlot (t : Tracks x w w') (bs : List Byte) (l : DWord) :
    Tracks x (w.writeSlot bs l) (w'.writeSlot bs l) := by
  have hb := pageBase_ge w.journal.page
  unfold Writer.writeSlot pageCount
  dsimp only
  rw [t.journal, t.readWord (by omega)]
  have h := (t.writeBytes (pageBase w.journal.page + 0x20 + 32 * (Machine.readWord w.mem (pageBase w.journal.page + 2)).toNat)
    bs).writeWord (pageBase w.journal.page + 2)
    (BitVec.ofNat 16 ((Machine.readWord w.mem (pageBase w.journal.page + 2)).toNat + 1))
  have h := h.setJournal (j := w.journal) (j' := w'.journal) t.journal
  rw [t.journal] at h
  split
  · exact h.closePage l
  · exact h

theorem takeSequence (t : Tracks x w w') : Tracks x w.takeSequence w'.takeSequence := by
  unfold Writer.takeSequence
  rw [t.journal]
  exact t.setJournal rfl

theorem withhold (t : Tracks x w w') (n : DWord) : Tracks x (w.withhold n) (w'.withhold n) := by
  unfold Writer.withhold
  rw [t.journal]
  exact t.setJournal rfl

theorem resume (t : Tracks x w w') (k l : DWord) : Tracks x (w.resume k l) (w'.resume k l) := by
  have ho := t.openPage w.journal.page l
  unfold Writer.resume
  dsimp only
  rw [t.journal]
  split
  · exact ho.setJournal (by rw [ho.journal])
  · have h := ho.takeSequence.writeSlot ((Record.gap w.journal.firstWithheld w.journal.withheld).bytes
      (w.openPage w.journal.page l).journal.nextRecord k) l
    rw [ho.journal]
    exact h.setJournal (by rw [h.journal])

theorem examine (t : Tracks x w w') (k l : DWord) : Tracks x (w.examine k l) (w'.examine k l) := by
  unfold Writer.examine pageState
  rw [t.journal, t.readWord (pageBase_ge _)]
  split
  · exact t.resume k l
  · exact t

theorem prepare (t : Tracks x w w') (k l : DWord) : Tracks x (w.prepare k l) (w'.prepare k l) := by
  unfold Writer.prepare
  rw [t.journal]
  split
  · exact t
  · split
    · exact t.examine k l
    · exact t.lookFor _ l

/-- A production depends on the Writer's own fields and the pages alone. -/
theorem produce (t : Tracks x w w') (r : Record) (k l : DWord) : Tracks x (w.produce r k l) (w'.produce r k l) := by
  have h := t.prepare k l
  have hn := h.takeSequence
  unfold Writer.produce
  dsimp only
  rw [h.journal, hn.journal]
  split
  · exact hn.writeSlot _ l
  · exact hn.withhold _

/-- So does a flush. -/
theorem flush (t : Tracks x w w') (l : DWord) : Tracks x (w.flush l) (w'.flush l) := by
  have hb := pageBase_ge w.journal.page
  have hc : w'.flushCount = w.flushCount := by
    unfold Writer.flushCount pageCount
    rw [t.journal, t.readWord (by omega)]
  unfold Writer.flush
  rw [hc]
  split
  · exact t
  · exact t.closePage l

end Tracks

end Sys2Proof.Machine
end

