-- ==== Sys2Proof/Laws/Keeps.lean ====
section
/-! SUPPORT. What an operation keeps. A property is `Quiet` when it does not look at the links, heads, stations, sensors,
cells and registers and is kept by records and completions; every operation of those blocks keeps such a property. An
invariant over the track, the gates, the lot or the memory is then proved by its own operations alone. -/

namespace Sys2Proof.Machine

/-- A step done for every index keeps what each of its steps keeps. -/
theorem forEach_keeps {σ : Type} {n : Nat} {f : Fin n → σ → σ} {P : σ → Prop}
    (h : ∀ i s, P s → P (f i s)) {s : σ} (hs : P s) : P (forEach n f s) := by
  unfold forEach
  induction List.finRange n generalizing s with
  | nil => exact hs
  | cons i l ih => exact ih (h i s hs)

/-- A step done for every entry of a list keeps what each of its steps keeps. -/
theorem foldl_keeps {σ α : Type} {f : σ → α → σ} {P : σ → Prop} (h : ∀ s a, P s → P (f s a)) (l : List α) {s : σ}
    (hs : P s) : P (l.foldl f s) := by
  induction l generalizing s with
  | nil => exact hs
  | cons a l ih => exact ih (h s a hs)

/-- A property that the blocks other than track, lot, gates and memory do not touch, and that records and completions
keep. -/
structure Quiet (P : Device → Prop) : Prop where
  ports : ∀ d v, P d → P { d with ports := v }
  heads : ∀ d v, P d → P { d with heads := v }
  stations : ∀ d v, P d → P { d with stations := v }
  sweep : ∀ d v, P d → P { d with sweep := v }
  sensor : ∀ d v, P d → P { d with sensor := v }
  timebase : ∀ d v, P d → P { d with timebase := v }
  slate : ∀ d v, P d → P { d with slate := v }
  port : ∀ d v, P d → P { d with port := v }
  produce : ∀ d r, P d → P (d.produce r)
  flush : ∀ d, P d → P d.flush
  examine : ∀ d, P d → P d.examineAwaited
  complete : ∀ d n c v, P d → P (d.complete n c v)
  markTaken : ∀ d n, P d → P (d.markTaken n)

namespace Quiet

variable {P : Device → Prop} (q : Quiet P)
include q

theorem updPort {d : Device} (h : P d) (l : Fin 6) (f : Port → Port) : P (d.updPort l f) := q.ports _ _ h

theorem updHead {d : Device} (h : P d) (l : Fin 6) (f : Head → Head) : P (d.updHead l f) := q.heads _ _ h

theorem updStation {d : Device} (h : P d) (st : Fin 3) (f : Station → Station) : P (d.updStation st f) :=
  q.stations _ _ h

theorem produceWith {d : Device} (h : P d) (e : Event) (r : Record) : P (d.produceWith e r) :=
  q.port _ _ (q.produce _ _ h)

theorem completeSome {d : Device} (h : P d) (n : Option (Fin 16)) (c : ResultCode) (v : DWord) :
    P (d.completeSome n c v) := by
  cases n with
  | none => exact h
  | some n => exact q.complete _ _ _ _ h

theorem refuse {d : Device} (h : P d) (n : Fin 16) (c : ResultCode) (v : DWord) : P (d.refuse n c v) :=
  q.complete _ _ _ _ h

/-- A take keeps what its command keeps. -/
theorem take {d : Device} (h : P d) (n : Fin 16) {f : Device → Device} (hf : ∀ d, P d → P (f d)) : P (d.take n f) := by
  unfold Device.take
  split
  · exact h
  · exact hf _ (q.markTaken _ _ h)

theorem binEvent {d : Device} (h : P d) (j : Fin 24) (k : BinKind) : P (d.binEvent j k) := q.produceWith h _ _

theorem produceTotals {d : Device} (h : P d) (g : Nat) : P (d.produceTotals g) :=
  foldl_keeps (P := P) (fun d _ hd => q.produce d _ hd) _ h

theorem produceLotEnd {d : Device} (h : P d) (g : Nat) : P (d.produceLotEnd g) :=
  q.produceTotals (q.produceWith h _ _) g

theorem produceLotAbort {d : Device} (h : P d) (s : LotState) (c : Option HaltCause) : P (d.produceLotAbort s c) :=
  q.produceTotals (q.produceWith h _ _) _

/-! ### Heads, stations, triggers -/

theorem headEvent {d : Device} (h : P d) (l : Fin 6) (o n : HeadState) : P (d.headEvent l o n) := q.produceWith h _ _

theorem stationEvent {d : Device} (h : P d) (st : Fin 3) : P (d.stationEvent st) := q.headEvent h _ _ _

theorem moveHead {d : Device} (h : P d) (l : Fin 6) (n : HeadState) : P (d.moveHead l n) := by
  unfold Device.moveHead
  split
  · exact h
  · exact q.headEvent (q.updHead h _ _) _ _ _

theorem selectAborted {d : Device} (h : P d) (st : Fin 3) : P (d.selectAborted st) := by
  unfold Device.selectAborted
  split
  · exact h
  · exact q.completeSome (q.updStation h _ _) _ _ _

/-- A head change keeps a quiet property that a halt request keeps. -/
theorem changeHead (halt : ∀ d c, P d → P (d.haltRequest c)) {d : Device} (h : P d) (l : Fin 6) (n : HeadState) :
    P (d.changeHead l n) := by
  unfold Device.changeHead
  extract_lets old st d1 d2 d3 d4
  have h1 : P d1 := by
    unfold d1
    split
    · exact q.updPort h _ _
    · exact h
  have h4 : P d4 := q.selectAborted (q.headEvent (q.updStation (q.updHead h1 _ _) _ _) _ _ _) _
  split
  · exact halt _ _ h4
  · exact h4

theorem evaluate (halt : ∀ d c, P d → P (d.haltRequest c)) {d : Device} (h : P d) (l : Fin 6) : P (d.evaluate l) := by
  unfold Device.evaluate
  dsimp only
  split
  · exact h
  · exact q.changeHead halt h _ _

theorem applySwitch {d : Device} (h : P d) (st : Fin 3) : P (d.applySwitch st) := by
  unfold Device.applySwitch
  split
  · exact h
  · dsimp only
    refine q.completeSome (q.moveHead ?_ _ _) _ _ _
    split
    · exact q.moveHead (q.updStation h _ _) _ _
    · exact q.updStation h _ _

theorem applySwitches {d : Device} (h : P d) : P d.applySwitches :=
  forEach_keeps (P := P) (fun st _ hd => q.applySwitch hd st) h

theorem openStation {d : Device} (h : P d) (st : Fin 3) : P (d.openStation st) := by
  unfold Device.openStation
  split
  · exact h
  · dsimp only
    split
    · exact q.moveHead (q.updStation h _ _) _ _
    · split
      · exact q.stationEvent (q.updStation h _ _) _
      · exact q.stationEvent (q.updStation h _ _) _

theorem closeStation {d : Device} (h : P d) (st : Fin 3) : P (d.closeStation st) := by
  unfold Device.closeStation
  dsimp only
  split
  · exact h
  · refine q.completeSome ?_ _ _ _
    split
    · exact q.moveHead (q.updStation h _ _) _ _
    · split
      · exact q.moveHead (q.updStation h _ _) _ _
      · exact q.stationEvent (q.updStation h _ _) _

theorem closeStations {d : Device} (h : P d) : P d.closeStations :=
  forEach_keeps (P := P) (fun st _ hd => q.closeStation hd st) h

theorem sendReference {d : Device} (h : P d) (l : Fin 6) : P (d.sendReference l) := by
  unfold Device.sendReference
  split
  · exact h
  · exact q.updPort h _ _

theorem sendReferences {d : Device} (h : P d) : P d.sendReferences := by
  refine forEach_keeps (P := P) (fun l d hd => ?_) h
  split
  · exact q.sendReference hd l
  · exact hd

theorem sendPart {d : Device} (h : P d) (l : Fin 6) : P (d.sendPart l) := by
  unfold Device.sendPart
  split
  · exact q.updPort h _ _
  · exact h

theorem selectorWork {d : Device} (h : P d) : P d.selectorWork := q.sendReferences (q.applySwitches (q.ports _ _ h))

theorem selectorHaltedWork {d : Device} (h : P d) : P d.selectorHaltedWork := q.applySwitches (q.ports _ _ h)

theorem forgetTriggers {d : Device} (h : P d) : P d.forgetTriggers := q.ports _ _ h

theorem endPartOf {d : Device} (h : P d) (p : Fin 96) : P (d.endPartOf p) := q.ports _ _ h

theorem openHeads (halt : ∀ d c, P d → P (d.haltRequest c)) {d : Device} (h : P d) : P d.openHeads :=
  forEach_keeps (P := P) (fun st _ hd => q.openStation hd st)
    (forEach_keeps (P := P) (fun l _ hd => q.evaluate halt hd l) (q.heads _ _ h))

/-! ### Link events -/

theorem linkEvent (halt : ∀ d c, P d → P (d.haltRequest c)) {d : Device} (h : P d) (l : Fin 6) (f : Port → Port) :
    P (d.linkEvent l f) := by
  unfold Device.linkEvent
  dsimp only
  split
  · exact q.updPort h _ _
  · exact q.evaluate halt (q.updPort h _ _) _

theorem carrierLost (halt : ∀ d c, P d → P (d.haltRequest c)) {d : Device} (h : P d) (l : Fin 6) : P (d.carrierLost l) := by
  unfold Device.carrierLost
  split
  · exact h
  · exact q.linkEvent halt h _ _

theorem statusFrame (halt : ∀ d c, P d → P (d.haltRequest c)) {d : Device} (h : P d) (l : Fin 6) (f : HeadFrame) :
    P (d.statusFrame l f) := by
  unfold Device.statusFrame
  split
  · exact h
  · dsimp only
    split
    · exact q.evaluate halt (q.updPort h _ _) _
    · exact q.updPort h _ _

theorem acceptReference (halt : ∀ d c, P d → P (d.haltRequest c)) {d : Device} (h : P d) (l : Fin 6) (f : HeadFrame)
    (t : Trigger) : P (d.acceptReference l f t) := by
  unfold Device.acceptReference
  split
  · split
    · exact h
    · split
      · exact q.changeHead halt h _ _
      · dsimp only
        split
        · exact q.changeHead halt (q.updHead h _ _) _ _
        · exact q.updHead h _ _
  · exact h

theorem referenceFrame (halt : ∀ d c, P d → P (d.haltRequest c)) {d : Device} (h : P d) (l : Fin 6) (f : HeadFrame) :
    P (d.referenceFrame l f) := by
  unfold Device.referenceFrame
  split
  · exact h
  · dsimp only
    have h1 := q.linkEvent halt h l Port.validFrame
    split
    · exact q.acceptReference halt (q.updPort h1 _ _) _ _ _
    · exact q.updPort h1 _ _

theorem selectInLot {d : Device} (h : P d) (n : Fin 16) (st : Fin 3) (sd : Side) : P (d.selectInLot n st sd) := by
  unfold Device.selectInLot
  split
  · exact q.stationEvent (q.updStation h _ _) _
  · exact q.updStation h _ _
  · exact q.refuse h _ _ _
  · exact q.refuse h _ _ _

theorem selectHead {d : Device} (h : P d) (n : Fin 16) (st : Fin 3) (sd : Side) : P (d.selectHead n st sd) := by
  unfold Device.selectHead
  split
  · exact q.refuse h _ _ _
  · split
    · exact q.complete _ _ _ _ h
    · split
      · exact q.complete _ _ _ _ (q.updStation h _ _)
      · exact q.selectInLot h _ _ _
    · exact q.refuse h _ _ _
    · exact q.refuse h _ _ _
    · exact q.refuse h _ _ _

theorem headSelect {d : Device} (h : P d) (n : Fin 16) (st sd : Word) : P (d.headSelect n st sd) := by
  unfold Device.headSelect
  split
  · exact q.refuse h _ _ _
  · exact q.refuse h _ _ _
  · exact q.selectHead h _ _ _

theorem selectCompletion {d : Device} (h : P d) (st : Fin 3) : P (d.selectCompletion st) := by
  unfold Device.selectCompletion
  split
  · exact h
  · split
    · exact q.applySwitch h _
    · exact q.selectAborted h _

theorem requalify (halt : ∀ d c, P d → P (d.haltRequest c)) {d : Device} (h : P d) (l : Fin 6) : P (d.requalify l) := by
  unfold Device.requalify
  dsimp only
  split
  · exact q.changeHead halt (q.updHead h _ _) _ _
  · exact q.updHead h _ _

theorem headRequalify (halt : ∀ d c, P d → P (d.haltRequest c)) {d : Device} (h : P d) (n : Fin 16) (w : Word) :
    P (d.headRequalify n w) := by
  unfold Device.headRequalify
  split
  · exact q.refuse h _ _ _
  · exact q.complete _ _ _ _ (q.requalify halt h _)

theorem journalFlush {d : Device} (h : P d) (n : Fin 16) : P (d.journalFlush n) := q.complete _ _ _ _ (q.flush _ h)

theorem protectSample {d : Device} (h : P d) (b : Bool) : P (d.protectSample b) := q.sensor _ _ h

theorem eventsWrite {d : Device} (h : P d) (v : Word) : P (d.eventsWrite v) := q.port _ _ h

theorem eventMaskWrite {d : Device} (h : P d) (v : Word) : P (d.eventMaskWrite v) := q.port _ _ h

theorem nudge {d : Device} (h : P d) (v : Word) : P (d.nudge v) := q.slate _ _ h

theorem refuseWrite {d : Device} (h : P d) (a : Nat) : P (d.refuseWrite a) := q.port _ _ h

theorem captureLow {d : Device} (h : P d) (f : HeaderField) : P (d.captureLow f) := q.port _ _ h

theorem readHigh {d : Device} (h : P d) (f : HeaderField) : P (d.readHigh f) := by
  unfold Device.readHigh
  split
  · split
    · exact q.port _ _ h
    · exact q.port _ _ h
  · exact q.port _ _ h

theorem readOr0 {d : Device} (h : P d) {f : Device → Device} (hf : P (f d)) : P (d.readOr0 f) := by
  unfold Device.readOr0
  split
  · exact hf
  · exact q.port _ _ h

end Quiet

/-! ## Every command -/

/-- What a property must be kept by, block by block, to be kept by every command. -/
structure KeptByBlocks (P : Device → Prop) : Prop extends Quiet P where
  halt : ∀ d c, P d → P (d.haltRequest c)
  indexEvent : ∀ d a b, P d → P (d.indexEvent a b)
  dropEdge : ∀ d j, P d → P (d.dropEdge j)
  acceptReading : ∀ d l f t, P d → P (d.acceptReading l f t)
  endDelay : ∀ d o, P d → P (d.stepRun o Run.endDelay)
  endHit : ∀ d o, P d → P (d.stepRun o Run.endHit)
  carrier : ∀ d o e, P d → P (d.stepRun o (Run.carrier e))
  endHold : ∀ d o, P d → P (d.stepRun o Run.endHold)
  observeEnd : ∀ d j, P d → P (d.observeEnd j)
  guardForcing : ∀ d, P d → P d.guardForcing
  setLevel : ∀ d j b, P d → P (d.setLevel j b)
  lotStart : ∀ d n b i f, P d → P (d.lotStart n b i f)
  lotEnd : ∀ d n, P d → P (d.lotEnd n)
  lotEndTest : ∀ d, P d → P d.lotEndTest
  lotAbort : ∀ d n, P d → P (d.lotAbort n)
  resume : ∀ d n b, P d → P (d.resume n b)
  bankSwitch : ∀ d n b m, P d → P (d.bankSwitch n b m)
  switchTest : ∀ d, P d → P d.switchTest
  binSwapBegin : ∀ d n g, P d → P (d.binSwapBegin n g)
  swapTest : ∀ d j, P d → P (d.swapTest j)
  binSwapEnd : ∀ d n g, P d → P (d.binSwapEnd n g)
  gateMode : ∀ d n g m, P d → P (d.gateMode n g m)
  testFire : ∀ d n g, P d → P (d.testFire n g)
  snapshot : ∀ d, P d → P d.snapshot
  clearCounters : ∀ d, P d → P d.clearCounters
  acceptWrite : ∀ d a v, P d → P (d.acceptWrite a v)
  powerOn : ∀ image, P (Device.atReset .initializing (imageMemory image))
  reset : ∀ d, P d → P (Device.atReset .held d.mem)
  begin : ∀ d, P d → P (Device.atReset .operating (keptMemory d.mem))
  release : ∀ d, P d → P { d with phase := .initializing }

namespace KeptByBlocks

variable {P : Device → Prop} (k : KeptByBlocks P)
include k

theorem readingFrame {d : Device} (h : P d) (l : Fin 6) (f : HeadFrame) : P (d.readingFrame l f) := by
  unfold Device.readingFrame
  split
  · exact h
  · dsimp only
    have h1 := k.linkEvent k.halt h l Port.validFrame
    split
    · exact k.acceptReading _ _ _ _ (k.updPort h1 _ _)
    · exact k.updPort h1 _ _

theorem guardChange {d : Device} (h : P d) (c : Bool) : P (d.guardChange c) := by
  unfold Device.guardChange
  split
  · exact h
  · dsimp only
    split
    · exact k.sensor _ _ h
    · exact k.halt _ _ (k.guardForcing _ (k.sensor _ _ h))

theorem guardSample {d : Device} (h : P d) (c : Bool) : P (d.guardSample c) := by
  unfold Device.guardSample
  split
  · exact k.sensor _ _ h
  · split
    · exact k.guardChange h _
    · exact k.sensor _ _ h

theorem levelChange {d : Device} (h : P d) (i : Fin 25) (b : Bool) : P (d.levelChange i b) := by
  unfold Device.levelChange
  split
  · exact h
  · dsimp only
    split
    · exact k.setLevel _ _ _ (k.sensor _ _ h)
    · split
      · exact k.halt _ _ (k.sensor _ _ h)
      · exact k.sensor _ _ h

theorem readSwitch {d : Device} (h : P d) (i : Fin 25) (b : Bool) : P (d.readSwitch i b) := by
  unfold Device.readSwitch
  split
  · exact k.sensor _ _ h
  · split
    · exact k.levelChange h _ _
    · exact k.sensor _ _ h

theorem readRow {d : Device} (h : P d) (b : BitVec 5) : P (d.readRow b) := by
  unfold Device.readRow
  split
  · exact k.sensor _ _ (forEach_keeps (P := P) (fun i d hd => k.readSwitch hd _ _) h)
  · exact h

theorem baseTick {d : Device} (h : P d) (g c : Bool) (b : BitVec 5) : P (d.baseTick g c b) := by
  have h1 : P (((d.guardSample g).protectSample c).readRow b) :=
    k.readRow (k.protectSample (k.guardSample h g) c) b
  unfold Device.baseTick
  generalize ((d.guardSample g).protectSample c).readRow b = d1 at h1
  have h2 := k.timebase _ { d1.timebase with due := d1.timebase.interval } (k.slate d1 d1.slate.requestScan h1)
  exact h2

theorem tallySnapshot {d : Device} (h : P d) (n : Fin 16) : P (d.tallySnapshot n) := k.complete _ _ _ _ (k.snapshot _ h)

theorem countersClear {d : Device} (h : P d) (n : Fin 16) : P (d.countersClear n) :=
  k.complete _ _ _ _ (k.clearCounters _ h)

theorem runKind {d : Device} (h : P d) (n : Fin 16) (c : Bool) (i : Nat) : P (d.runKind n c i) := by
  unfold Device.runKind
  split
  · exact k.lotStart _ _ _ _ _ h
  · exact k.lotEnd _ _ h
  · exact k.lotAbort _ _ h
  · exact k.resume _ _ _ h
  · exact k.bankSwitch _ _ _ _ h
  · exact k.binSwapBegin _ _ _ h
  · exact k.binSwapEnd _ _ _ h
  · exact k.gateMode _ _ _ _ h
  · exact k.testFire _ _ _ h
  · exact k.headSelect h _ _ _
  · exact k.headRequalify k.halt h _ _
  · exact k.journalFlush h _
  · exact k.tallySnapshot h _
  · exact k.countersClear h _
  · exact k.refuse h _ _ _

theorem visit {d : Device} (h : P d) (n : Fin 16) (c : Bool) : P (d.visit n c) := by
  unfold Device.visit
  split
  · exact k.take h _ (fun d hd => k.runKind hd _ _ _)
  · split
    · exact k.take h _ (fun d hd => k.refuse hd _ _ _)
    · exact h

theorem scanVisit {d : Device} (h : P d) (c : Bool) : P (d.scanVisit c) := by
  unfold Device.scanVisit
  split
  · exact h
  · exact k.slate _ _ (k.visit h _ _)

theorem hostWrite {d : Device} (h : P d) (a : BitVec 15) (v : Word) : P (d.hostWrite a v) := by
  unfold Device.hostWrite
  dsimp only
  split
  · exact k.eventsWrite h _
  · split
    · exact k.eventMaskWrite h _
    · split
      · exact k.nudge h _
      · split
        · exact k.refuseWrite h _
        · exact k.acceptWrite _ _ _ h

theorem appearAll {d : Device} (h : P d) (b : BitVec 6) : P (appearAll b d) := by
  refine forEach_keeps (P := P) (fun i d hd => ?_) h
  split
  · exact k.updPort hd _ _
  · exact hd

theorem initializationEnd {d : Device} (h : P d) (b : BitVec 6) : P (d.initializationEnd b) := by
  unfold Device.initializationEnd
  split
  · unfold Device.beginOperation
    have h1 := k.begin d h
    dsimp only
    generalize Device.atReset .operating (keptMemory d.mem) = base at h1 ⊢
    have h2 := k.port _ { base.port with data := d.port.data }
      (k.sensor base { base.sensor with driven := some 0 } h1)
    exact k.appearAll h2 b
  · exact h

theorem releaseStep {d : Device} (h : P d) : P d.release := by
  unfold Device.release
  split
  · exact k.release _ h
  · exact h

omit k in
theorem event_next {s t : State} {f : Device → Device} (h : s.event f = .next t) :
    t.dev = s.dev.whenOperating f := by
  cases h; rfl

omit k in
theorem act_next {s t : State} {f : Device → Device} (h : s.act f = .next t) : t.dev = f s.dev := by
  cases h; rfl

omit k in
theorem event {s t : State} {f : Device → Device} (h : s.event f = .next t) (hs : P s.dev) (hf : P (f s.dev)) :
    P t.dev := by
  rw [event_next h]
  unfold Device.whenOperating
  split
  · exact hf
  · exact hs

/-- A property kept by every block is kept by every command. -/
theorem exec_keeps {c : Instr} {s t : State} (h : exec c s = .next t) (hs : P s.dev) : P t.dev := by
  cases c with
  | powerOn image =>
    have h' : s.act (fun _ => Device.atReset .initializing (imageMemory image)) = .next t := h
    rw [act_next h']
    exact k.powerOn image
  | reset =>
    have h' : s.act (fun d => Device.atReset .held d.mem) = .next t := h
    rw [act_next h']
    exact k.reset _ hs
  | initializationEnd b => rw [act_next h]; exact k.initializationEnd hs b
  | indexEvent a b => exact KeptByBlocks.event h hs (k.indexEvent _ _ _ (k.sensor _ _ hs))
  | dropEdge j => exact KeptByBlocks.event h hs (k.dropEdge _ _ (k.sensor _ _ hs))
  | carrierAppears l => exact KeptByBlocks.event h hs (k.updPort hs _ _)
  | carrierLost l => exact KeptByBlocks.event h hs (k.carrierLost k.halt hs _)
  | invalidFrame l => exact KeptByBlocks.event h hs (k.linkEvent k.halt hs _ _)
  | statusFrame l f => exact KeptByBlocks.event h hs (k.statusFrame k.halt hs _ _)
  | readingFrame l f => exact KeptByBlocks.event h hs (k.readingFrame hs _ _)
  | referenceFrame l f => exact KeptByBlocks.event h hs (k.referenceFrame k.halt hs _ _)
  | silenceTimerExpiry l => exact KeptByBlocks.event h hs (k.linkEvent k.halt hs _ _)
  | contactDelayExpiry l => exact KeptByBlocks.event h hs (k.sendPart hs _)
  | fireDelayExpiry o => exact KeptByBlocks.event h hs (k.endDelay _ _ hs)
  | hitTimeExpiry o => exact KeptByBlocks.event h hs (k.endHit _ _ hs)
  | holdCarrierPeriod o e => exact KeptByBlocks.event h hs (k.carrier _ _ _ hs)
  | holdTimeExpiry o => exact KeptByBlocks.event h hs (k.endHold _ _ hs)
  | testFireObserveEnd j => exact KeptByBlocks.event h hs (k.observeEnd _ _ hs)
  | baseTick g c b => exact KeptByBlocks.event h hs (k.baseTick hs _ _ _)
  | guardChange b => exact KeptByBlocks.event h hs (k.guardChange hs _)
  | levelSwitchChange i b => exact KeptByBlocks.event h hs (k.levelChange hs _ _)
  | scanVisit b => exact KeptByBlocks.event h hs (k.scanVisit hs _)
  | lotStart n b i f => exact KeptByBlocks.event h hs (k.take hs _ (fun d hd => k.lotStart _ _ _ _ _ hd))
  | lotEnd n => exact KeptByBlocks.event h hs (k.take hs _ (fun d hd => k.lotEnd _ _ hd))
  | lotEndCompletion => exact KeptByBlocks.event h hs (k.lotEndTest _ hs)
  | lotAbort n => exact KeptByBlocks.event h hs (k.take hs _ (fun d hd => k.lotAbort _ _ hd))
  | resume n b => exact KeptByBlocks.event h hs (k.take hs _ (fun d hd => k.resume _ _ _ hd))
  | bankSwitch n b m => exact KeptByBlocks.event h hs (k.take hs _ (fun d hd => k.bankSwitch _ _ _ _ hd))
  | bankSwitchCompletion => exact KeptByBlocks.event h hs (k.switchTest _ hs)
  | binSwapBegin n g => exact KeptByBlocks.event h hs (k.take hs _ (fun d hd => k.binSwapBegin _ _ _ hd))
  | binSwapBeginCompletion j => exact KeptByBlocks.event h hs (k.swapTest _ _ hs)
  | binSwapEnd n g => exact KeptByBlocks.event h hs (k.take hs _ (fun d hd => k.binSwapEnd _ _ _ hd))
  | gateMode n g m => exact KeptByBlocks.event h hs (k.take hs _ (fun d hd => k.gateMode _ _ _ _ hd))
  | testFire n g => exact KeptByBlocks.event h hs (k.take hs _ (fun d hd => k.testFire _ _ _ hd))
  | headSelect n a b => exact KeptByBlocks.event h hs (k.take hs _ (fun d hd => k.headSelect hd _ _ _))
  | headSelectCompletion st => exact KeptByBlocks.event h hs (k.selectCompletion hs _)
  | headRequalify n w => exact KeptByBlocks.event h hs (k.take hs _ (fun d hd => k.headRequalify k.halt hd _ _))
  | journalFlush n => exact KeptByBlocks.event h hs (k.take hs _ (fun d hd => k.journalFlush hd _))
  | tallySnapshot n => exact KeptByBlocks.event h hs (k.take hs _ (fun d hd => k.tallySnapshot hd _))
  | countersClear n => exact KeptByBlocks.event h hs (k.take hs _ (fun d hd => k.countersClear hd _))
  | unknownCommand n w => exact KeptByBlocks.event h hs (k.take hs _ (fun d hd => k.refuse hd _ _ _))
  | nudge v => exact KeptByBlocks.event h hs (k.nudge hs _)
  | eventsWrite v => exact KeptByBlocks.event h hs (k.eventsWrite hs _)
  | eventMaskWrite v => exact KeptByBlocks.event h hs (k.eventMaskWrite hs _)
  | headerCaptureRead f =>
    have h' : s.act (fun d => d.readOr0 (fun d => d.captureLow f)) = .next t := h
    rw [act_next h']
    exact k.readOr0 hs (k.captureLow hs _)
  | hostWrite a v => exact KeptByBlocks.event h hs (k.hostWrite hs _ _)
  | headerHighWordRead f =>
    have h' : s.act (fun d => d.readOr0 (fun d => d.readHigh f)) = .next t := h
    rw [act_next h']
    exact k.readOr0 hs (k.readHigh hs _)
  | resetnRelease => rw [act_next h]; exact k.releaseStep hs

/-- A property kept by every block is kept by every step, one with no command waiting included. -/
theorem step_keeps {s t : State} (h : step s = .next t) (hs : P s.dev) : P t.dev := by
  unfold step at h
  split at h
  · cases h
    exact k.sensor _ _ hs
  · exact k.exec_keeps h hs

end KeptByBlocks

end Sys2Proof.Machine
end

