-- ==== Sys2Proof/Laws/State.lean ====
section
/-! SUPPORT. The fields of the part after each of its updates: one lemma per field per update, so that no proof unfolds a
record update. -/

namespace Sys2Proof.Machine

variable (d : Device)

/-! ### `Device.updPocket` -/

@[simp] theorem Device.updPocket_phase (p : Fin 96) (f : Pocket → Pocket) : (d.updPocket p f).phase = d.phase := rfl

@[simp] theorem Device.updPocket_phi (p : Fin 96) (f : Pocket → Pocket) : (d.updPocket p f).phi = d.phi := rfl

@[simp] theorem Device.updPocket_k (p : Fin 96) (f : Pocket → Pocket) : (d.updPocket p f).k = d.k := rfl

@[simp] theorem Device.updPocket_idleIndexes (p : Fin 96) (f : Pocket → Pocket) :
    (d.updPocket p f).idleIndexes = d.idleIndexes := rfl

@[simp] theorem Device.updPocket_track (p : Fin 96) (f : Pocket → Pocket) :
    (d.updPocket p f).track = d.track.set p (f d.track[p]) := rfl

@[simp] theorem Device.updPocket_lot (p : Fin 96) (f : Pocket → Pocket) : (d.updPocket p f).lot = d.lot := rfl

@[simp] theorem Device.updPocket_ports (p : Fin 96) (f : Pocket → Pocket) : (d.updPocket p f).ports = d.ports := rfl

@[simp] theorem Device.updPocket_heads (p : Fin 96) (f : Pocket → Pocket) : (d.updPocket p f).heads = d.heads := rfl

@[simp] theorem Device.updPocket_stations (p : Fin 96) (f : Pocket → Pocket) :
    (d.updPocket p f).stations = d.stations := rfl

@[simp] theorem Device.updPocket_gates (p : Fin 96) (f : Pocket → Pocket) : (d.updPocket p f).gates = d.gates := rfl

@[simp] theorem Device.updPocket_sweep (p : Fin 96) (f : Pocket → Pocket) : (d.updPocket p f).sweep = d.sweep := rfl

@[simp] theorem Device.updPocket_sensor (p : Fin 96) (f : Pocket → Pocket) :
    (d.updPocket p f).sensor = d.sensor := rfl

@[simp] theorem Device.updPocket_timebase (p : Fin 96) (f : Pocket → Pocket) :
    (d.updPocket p f).timebase = d.timebase := rfl

@[simp] theorem Device.updPocket_slate (p : Fin 96) (f : Pocket → Pocket) : (d.updPocket p f).slate = d.slate := rfl

@[simp] theorem Device.updPocket_journal (p : Fin 96) (f : Pocket → Pocket) :
    (d.updPocket p f).journal = d.journal := rfl

@[simp] theorem Device.updPocket_port (p : Fin 96) (f : Pocket → Pocket) : (d.updPocket p f).port = d.port := rfl

@[simp] theorem Device.updPocket_held (p : Fin 96) (f : Pocket → Pocket) : (d.updPocket p f).held = d.held := rfl

@[simp] theorem Device.updPocket_mem (p : Fin 96) (f : Pocket → Pocket) : (d.updPocket p f).mem = d.mem := rfl

/-! ### `Device.updPort` -/

@[simp] theorem Device.updPort_phase (l : Fin 6) (f : Port → Port) : (d.updPort l f).phase = d.phase := rfl

@[simp] theorem Device.updPort_phi (l : Fin 6) (f : Port → Port) : (d.updPort l f).phi = d.phi := rfl

@[simp] theorem Device.updPort_k (l : Fin 6) (f : Port → Port) : (d.updPort l f).k = d.k := rfl

@[simp] theorem Device.updPort_idleIndexes (l : Fin 6) (f : Port → Port) :
    (d.updPort l f).idleIndexes = d.idleIndexes := rfl

@[simp] theorem Device.updPort_track (l : Fin 6) (f : Port → Port) : (d.updPort l f).track = d.track := rfl

@[simp] theorem Device.updPort_lot (l : Fin 6) (f : Port → Port) : (d.updPort l f).lot = d.lot := rfl

@[simp] theorem Device.updPort_ports (l : Fin 6) (f : Port → Port) :
    (d.updPort l f).ports = d.ports.set l (f d.ports[l]) := rfl

@[simp] theorem Device.updPort_heads (l : Fin 6) (f : Port → Port) : (d.updPort l f).heads = d.heads := rfl

@[simp] theorem Device.updPort_stations (l : Fin 6) (f : Port → Port) : (d.updPort l f).stations = d.stations := rfl

@[simp] theorem Device.updPort_gates (l : Fin 6) (f : Port → Port) : (d.updPort l f).gates = d.gates := rfl

@[simp] theorem Device.updPort_sweep (l : Fin 6) (f : Port → Port) : (d.updPort l f).sweep = d.sweep := rfl

@[simp] theorem Device.updPort_sensor (l : Fin 6) (f : Port → Port) : (d.updPort l f).sensor = d.sensor := rfl

@[simp] theorem Device.updPort_timebase (l : Fin 6) (f : Port → Port) : (d.updPort l f).timebase = d.timebase := rfl

@[simp] theorem Device.updPort_slate (l : Fin 6) (f : Port → Port) : (d.updPort l f).slate = d.slate := rfl

@[simp] theorem Device.updPort_journal (l : Fin 6) (f : Port → Port) : (d.updPort l f).journal = d.journal := rfl

@[simp] theorem Device.updPort_port (l : Fin 6) (f : Port → Port) : (d.updPort l f).port = d.port := rfl

@[simp] theorem Device.updPort_held (l : Fin 6) (f : Port → Port) : (d.updPort l f).held = d.held := rfl

@[simp] theorem Device.updPort_mem (l : Fin 6) (f : Port → Port) : (d.updPort l f).mem = d.mem := rfl

/-! ### `Device.updHead` -/

@[simp] theorem Device.updHead_phase (l : Fin 6) (f : Head → Head) : (d.updHead l f).phase = d.phase := rfl

@[simp] theorem Device.updHead_phi (l : Fin 6) (f : Head → Head) : (d.updHead l f).phi = d.phi := rfl

@[simp] theorem Device.updHead_k (l : Fin 6) (f : Head → Head) : (d.updHead l f).k = d.k := rfl

@[simp] theorem Device.updHead_idleIndexes (l : Fin 6) (f : Head → Head) :
    (d.updHead l f).idleIndexes = d.idleIndexes := rfl

@[simp] theorem Device.updHead_track (l : Fin 6) (f : Head → Head) : (d.updHead l f).track = d.track := rfl

@[simp] theorem Device.updHead_lot (l : Fin 6) (f : Head → Head) : (d.updHead l f).lot = d.lot := rfl

@[simp] theorem Device.updHead_ports (l : Fin 6) (f : Head → Head) : (d.updHead l f).ports = d.ports := rfl

@[simp] theorem Device.updHead_heads (l : Fin 6) (f : Head → Head) :
    (d.updHead l f).heads = d.heads.set l (f d.heads[l]) := rfl

@[simp] theorem Device.updHead_stations (l : Fin 6) (f : Head → Head) : (d.updHead l f).stations = d.stations := rfl

@[simp] theorem Device.updHead_gates (l : Fin 6) (f : Head → Head) : (d.updHead l f).gates = d.gates := rfl

@[simp] theorem Device.updHead_sweep (l : Fin 6) (f : Head → Head) : (d.updHead l f).sweep = d.sweep := rfl

@[simp] theorem Device.updHead_sensor (l : Fin 6) (f : Head → Head) : (d.updHead l f).sensor = d.sensor := rfl

@[simp] theorem Device.updHead_timebase (l : Fin 6) (f : Head → Head) : (d.updHead l f).timebase = d.timebase := rfl

@[simp] theorem Device.updHead_slate (l : Fin 6) (f : Head → Head) : (d.updHead l f).slate = d.slate := rfl

@[simp] theorem Device.updHead_journal (l : Fin 6) (f : Head → Head) : (d.updHead l f).journal = d.journal := rfl

@[simp] theorem Device.updHead_port (l : Fin 6) (f : Head → Head) : (d.updHead l f).port = d.port := rfl

@[simp] theorem Device.updHead_held (l : Fin 6) (f : Head → Head) : (d.updHead l f).held = d.held := rfl

@[simp] theorem Device.updHead_mem (l : Fin 6) (f : Head → Head) : (d.updHead l f).mem = d.mem := rfl

/-! ### `Device.updStation` -/

@[simp] theorem Device.updStation_phase (st : Fin 3) (f : Station → Station) :
    (d.updStation st f).phase = d.phase := rfl

@[simp] theorem Device.updStation_phi (st : Fin 3) (f : Station → Station) : (d.updStation st f).phi = d.phi := rfl

@[simp] theorem Device.updStation_k (st : Fin 3) (f : Station → Station) : (d.updStation st f).k = d.k := rfl

@[simp] theorem Device.updStation_idleIndexes (st : Fin 3) (f : Station → Station) :
    (d.updStation st f).idleIndexes = d.idleIndexes := rfl

@[simp] theorem Device.updStation_track (st : Fin 3) (f : Station → Station) :
    (d.updStation st f).track = d.track := rfl

@[simp] theorem Device.updStation_lot (st : Fin 3) (f : Station → Station) : (d.updStation st f).lot = d.lot := rfl

@[simp] theorem Device.updStation_ports (st : Fin 3) (f : Station → Station) :
    (d.updStation st f).ports = d.ports := rfl

@[simp] theorem Device.updStation_heads (st : Fin 3) (f : Station → Station) :
    (d.updStation st f).heads = d.heads := rfl

@[simp] theorem Device.updStation_stations (st : Fin 3) (f : Station → Station) :
    (d.updStation st f).stations = d.stations.set st (f d.stations[st]) := rfl

@[simp] theorem Device.updStation_gates (st : Fin 3) (f : Station → Station) :
    (d.updStation st f).gates = d.gates := rfl

@[simp] theorem Device.updStation_sweep (st : Fin 3) (f : Station → Station) :
    (d.updStation st f).sweep = d.sweep := rfl

@[simp] theorem Device.updStation_sensor (st : Fin 3) (f : Station → Station) :
    (d.updStation st f).sensor = d.sensor := rfl

@[simp] theorem Device.updStation_timebase (st : Fin 3) (f : Station → Station) :
    (d.updStation st f).timebase = d.timebase := rfl

@[simp] theorem Device.updStation_slate (st : Fin 3) (f : Station → Station) :
    (d.updStation st f).slate = d.slate := rfl

@[simp] theorem Device.updStation_journal (st : Fin 3) (f : Station → Station) :
    (d.updStation st f).journal = d.journal := rfl

@[simp] theorem Device.updStation_port (st : Fin 3) (f : Station → Station) : (d.updStation st f).port = d.port := rfl

@[simp] theorem Device.updStation_held (st : Fin 3) (f : Station → Station) : (d.updStation st f).held = d.held := rfl

@[simp] theorem Device.updStation_mem (st : Fin 3) (f : Station → Station) : (d.updStation st f).mem = d.mem := rfl

/-! ### `Device.updGate` -/

@[simp] theorem Device.updGate_phase (j : Fin 24) (f : Gate → Gate) : (d.updGate j f).phase = d.phase := rfl

@[simp] theorem Device.updGate_phi (j : Fin 24) (f : Gate → Gate) : (d.updGate j f).phi = d.phi := rfl

@[simp] theorem Device.updGate_k (j : Fin 24) (f : Gate → Gate) : (d.updGate j f).k = d.k := rfl

@[simp] theorem Device.updGate_idleIndexes (j : Fin 24) (f : Gate → Gate) :
    (d.updGate j f).idleIndexes = d.idleIndexes := rfl

@[simp] theorem Device.updGate_track (j : Fin 24) (f : Gate → Gate) : (d.updGate j f).track = d.track := rfl

@[simp] theorem Device.updGate_lot (j : Fin 24) (f : Gate → Gate) : (d.updGate j f).lot = d.lot := rfl

@[simp] theorem Device.updGate_ports (j : Fin 24) (f : Gate → Gate) : (d.updGate j f).ports = d.ports := rfl

@[simp] theorem Device.updGate_heads (j : Fin 24) (f : Gate → Gate) : (d.updGate j f).heads = d.heads := rfl

@[simp] theorem Device.updGate_stations (j : Fin 24) (f : Gate → Gate) : (d.updGate j f).stations = d.stations := rfl

@[simp] theorem Device.updGate_gates (j : Fin 24) (f : Gate → Gate) :
    (d.updGate j f).gates = d.gates.set j (f d.gates[j]) := rfl

@[simp] theorem Device.updGate_sweep (j : Fin 24) (f : Gate → Gate) : (d.updGate j f).sweep = d.sweep := rfl

@[simp] theorem Device.updGate_sensor (j : Fin 24) (f : Gate → Gate) : (d.updGate j f).sensor = d.sensor := rfl

@[simp] theorem Device.updGate_timebase (j : Fin 24) (f : Gate → Gate) : (d.updGate j f).timebase = d.timebase := rfl

@[simp] theorem Device.updGate_slate (j : Fin 24) (f : Gate → Gate) : (d.updGate j f).slate = d.slate := rfl

@[simp] theorem Device.updGate_journal (j : Fin 24) (f : Gate → Gate) : (d.updGate j f).journal = d.journal := rfl

@[simp] theorem Device.updGate_port (j : Fin 24) (f : Gate → Gate) : (d.updGate j f).port = d.port := rfl

@[simp] theorem Device.updGate_held (j : Fin 24) (f : Gate → Gate) : (d.updGate j f).held = d.held := rfl

@[simp] theorem Device.updGate_mem (j : Fin 24) (f : Gate → Gate) : (d.updGate j f).mem = d.mem := rfl

/-! ### `Device.updLot` -/

@[simp] theorem Device.updLot_phase (f : Lot → Lot) : (d.updLot f).phase = d.phase := rfl

@[simp] theorem Device.updLot_phi (f : Lot → Lot) : (d.updLot f).phi = d.phi := rfl

@[simp] theorem Device.updLot_k (f : Lot → Lot) : (d.updLot f).k = d.k := rfl

@[simp] theorem Device.updLot_idleIndexes (f : Lot → Lot) : (d.updLot f).idleIndexes = d.idleIndexes := rfl

@[simp] theorem Device.updLot_track (f : Lot → Lot) : (d.updLot f).track = d.track := rfl

@[simp] theorem Device.updLot_lot (f : Lot → Lot) : (d.updLot f).lot = f d.lot := rfl

@[simp] theorem Device.updLot_ports (f : Lot → Lot) : (d.updLot f).ports = d.ports := rfl

@[simp] theorem Device.updLot_heads (f : Lot → Lot) : (d.updLot f).heads = d.heads := rfl

@[simp] theorem Device.updLot_stations (f : Lot → Lot) : (d.updLot f).stations = d.stations := rfl

@[simp] theorem Device.updLot_gates (f : Lot → Lot) : (d.updLot f).gates = d.gates := rfl

@[simp] theorem Device.updLot_sweep (f : Lot → Lot) : (d.updLot f).sweep = d.sweep := rfl

@[simp] theorem Device.updLot_sensor (f : Lot → Lot) : (d.updLot f).sensor = d.sensor := rfl

@[simp] theorem Device.updLot_timebase (f : Lot → Lot) : (d.updLot f).timebase = d.timebase := rfl

@[simp] theorem Device.updLot_slate (f : Lot → Lot) : (d.updLot f).slate = d.slate := rfl

@[simp] theorem Device.updLot_journal (f : Lot → Lot) : (d.updLot f).journal = d.journal := rfl

@[simp] theorem Device.updLot_port (f : Lot → Lot) : (d.updLot f).port = d.port := rfl

@[simp] theorem Device.updLot_held (f : Lot → Lot) : (d.updLot f).held = d.held := rfl

@[simp] theorem Device.updLot_mem (f : Lot → Lot) : (d.updLot f).mem = d.mem := rfl

/-! ### `Device.registerIndex` -/

@[simp] theorem Device.registerIndex_phase : (d.registerIndex).phase = d.phase := rfl

@[simp] theorem Device.registerIndex_phi : (d.registerIndex).phi = d.phi := rfl

@[simp] theorem Device.registerIndex_k : (d.registerIndex).k = d.k := rfl

@[simp] theorem Device.registerIndex_idleIndexes : (d.registerIndex).idleIndexes = d.idleIndexes := rfl

@[simp] theorem Device.registerIndex_track : (d.registerIndex).track = d.track := rfl

@[simp] theorem Device.registerIndex_lot : (d.registerIndex).lot = d.lot := rfl

@[simp] theorem Device.registerIndex_ports : (d.registerIndex).ports = d.ports := rfl

@[simp] theorem Device.registerIndex_heads : (d.registerIndex).heads = d.heads := rfl

@[simp] theorem Device.registerIndex_stations : (d.registerIndex).stations = d.stations := rfl

@[simp] theorem Device.registerIndex_gates : (d.registerIndex).gates = d.gates := rfl

@[simp] theorem Device.registerIndex_sweep : (d.registerIndex).sweep = d.sweep := rfl

@[simp] theorem Device.registerIndex_sensor : (d.registerIndex).sensor = { d.sensor with index := .registered } := rfl

@[simp] theorem Device.registerIndex_timebase : (d.registerIndex).timebase = d.timebase := rfl

@[simp] theorem Device.registerIndex_slate : (d.registerIndex).slate = d.slate := rfl

@[simp] theorem Device.registerIndex_journal : (d.registerIndex).journal = d.journal := rfl

@[simp] theorem Device.registerIndex_port : (d.registerIndex).port = d.port := rfl

@[simp] theorem Device.registerIndex_held : (d.registerIndex).held = d.held := rfl

@[simp] theorem Device.registerIndex_mem : (d.registerIndex).mem = d.mem := rfl

/-! ### `Device.registerDrop` -/

@[simp] theorem Device.registerDrop_phase (j : Fin 24) : (d.registerDrop j).phase = d.phase := rfl

@[simp] theorem Device.registerDrop_phi (j : Fin 24) : (d.registerDrop j).phi = d.phi := rfl

@[simp] theorem Device.registerDrop_k (j : Fin 24) : (d.registerDrop j).k = d.k := rfl

@[simp] theorem Device.registerDrop_idleIndexes (j : Fin 24) : (d.registerDrop j).idleIndexes = d.idleIndexes := rfl

@[simp] theorem Device.registerDrop_track (j : Fin 24) : (d.registerDrop j).track = d.track := rfl

@[simp] theorem Device.registerDrop_lot (j : Fin 24) : (d.registerDrop j).lot = d.lot := rfl

@[simp] theorem Device.registerDrop_ports (j : Fin 24) : (d.registerDrop j).ports = d.ports := rfl

@[simp] theorem Device.registerDrop_heads (j : Fin 24) : (d.registerDrop j).heads = d.heads := rfl

@[simp] theorem Device.registerDrop_stations (j : Fin 24) : (d.registerDrop j).stations = d.stations := rfl

@[simp] theorem Device.registerDrop_gates (j : Fin 24) : (d.registerDrop j).gates = d.gates := rfl

@[simp] theorem Device.registerDrop_sweep (j : Fin 24) : (d.registerDrop j).sweep = d.sweep := rfl

@[simp] theorem Device.registerDrop_sensor (j : Fin 24) :
    (d.registerDrop j).sensor = { d.sensor with drops := d.sensor.drops.set j false } := rfl

@[simp] theorem Device.registerDrop_timebase (j : Fin 24) : (d.registerDrop j).timebase = d.timebase := rfl

@[simp] theorem Device.registerDrop_slate (j : Fin 24) : (d.registerDrop j).slate = d.slate := rfl

@[simp] theorem Device.registerDrop_journal (j : Fin 24) : (d.registerDrop j).journal = d.journal := rfl

@[simp] theorem Device.registerDrop_port (j : Fin 24) : (d.registerDrop j).port = d.port := rfl

@[simp] theorem Device.registerDrop_held (j : Fin 24) : (d.registerDrop j).held = d.held := rfl

@[simp] theorem Device.registerDrop_mem (j : Fin 24) : (d.registerDrop j).mem = d.mem := rfl

/-! ### `Device.watchLines` -/

@[simp] theorem Device.watchLines_phase (x : BitVec 26) : (d.watchLines x).phase = d.phase := rfl

@[simp] theorem Device.watchLines_phi (x : BitVec 26) : (d.watchLines x).phi = d.phi := rfl

@[simp] theorem Device.watchLines_k (x : BitVec 26) : (d.watchLines x).k = d.k := rfl

@[simp] theorem Device.watchLines_idleIndexes (x : BitVec 26) : (d.watchLines x).idleIndexes = d.idleIndexes := rfl

@[simp] theorem Device.watchLines_track (x : BitVec 26) : (d.watchLines x).track = d.track := rfl

@[simp] theorem Device.watchLines_lot (x : BitVec 26) : (d.watchLines x).lot = d.lot := rfl

@[simp] theorem Device.watchLines_ports (x : BitVec 26) : (d.watchLines x).ports = d.ports := rfl

@[simp] theorem Device.watchLines_heads (x : BitVec 26) : (d.watchLines x).heads = d.heads := rfl

@[simp] theorem Device.watchLines_stations (x : BitVec 26) : (d.watchLines x).stations = d.stations := rfl

@[simp] theorem Device.watchLines_gates (x : BitVec 26) : (d.watchLines x).gates = d.gates := rfl

@[simp] theorem Device.watchLines_sweep (x : BitVec 26) : (d.watchLines x).sweep = d.sweep := rfl

@[simp] theorem Device.watchLines_sensor (x : BitVec 26) :
    (d.watchLines x).sensor = if d.phase = .operating then d.sensor.watch x else d.sensor := rfl

@[simp] theorem Device.watchLines_timebase (x : BitVec 26) : (d.watchLines x).timebase = d.timebase := rfl

@[simp] theorem Device.watchLines_slate (x : BitVec 26) : (d.watchLines x).slate = d.slate := rfl

@[simp] theorem Device.watchLines_journal (x : BitVec 26) : (d.watchLines x).journal = d.journal := rfl

@[simp] theorem Device.watchLines_port (x : BitVec 26) : (d.watchLines x).port = d.port := rfl

@[simp] theorem Device.watchLines_held (x : BitVec 26) : (d.watchLines x).held = d.held := rfl

@[simp] theorem Device.watchLines_mem (x : BitVec 26) : (d.watchLines x).mem = d.mem := rfl

/-! ### `Device.raise` -/

@[simp] theorem Device.raise_phase (e : Event) : (d.raise e).phase = d.phase := rfl

@[simp] theorem Device.raise_phi (e : Event) : (d.raise e).phi = d.phi := rfl

@[simp] theorem Device.raise_k (e : Event) : (d.raise e).k = d.k := rfl

@[simp] theorem Device.raise_idleIndexes (e : Event) : (d.raise e).idleIndexes = d.idleIndexes := rfl

@[simp] theorem Device.raise_track (e : Event) : (d.raise e).track = d.track := rfl

@[simp] theorem Device.raise_lot (e : Event) : (d.raise e).lot = d.lot := rfl

@[simp] theorem Device.raise_ports (e : Event) : (d.raise e).ports = d.ports := rfl

@[simp] theorem Device.raise_heads (e : Event) : (d.raise e).heads = d.heads := rfl

@[simp] theorem Device.raise_stations (e : Event) : (d.raise e).stations = d.stations := rfl

@[simp] theorem Device.raise_gates (e : Event) : (d.raise e).gates = d.gates := rfl

@[simp] theorem Device.raise_sweep (e : Event) : (d.raise e).sweep = d.sweep := rfl

@[simp] theorem Device.raise_sensor (e : Event) : (d.raise e).sensor = d.sensor := rfl

@[simp] theorem Device.raise_timebase (e : Event) : (d.raise e).timebase = d.timebase := rfl

@[simp] theorem Device.raise_slate (e : Event) : (d.raise e).slate = d.slate := rfl

@[simp] theorem Device.raise_journal (e : Event) : (d.raise e).journal = d.journal := rfl

@[simp] theorem Device.raise_port (e : Event) :
    (d.raise e).port = { d.port with events := d.port.events ||| e.bit } := rfl

@[simp] theorem Device.raise_held (e : Event) : (d.raise e).held = d.held := rfl

@[simp] theorem Device.raise_mem (e : Event) : (d.raise e).mem = d.mem := rfl

/-! ### `Device.withWriter` -/

@[simp] theorem Device.withWriter_phase (w : Writer) : (d.withWriter w).phase = d.phase := rfl

@[simp] theorem Device.withWriter_phi (w : Writer) : (d.withWriter w).phi = d.phi := rfl

@[simp] theorem Device.withWriter_k (w : Writer) : (d.withWriter w).k = d.k := rfl

@[simp] theorem Device.withWriter_idleIndexes (w : Writer) : (d.withWriter w).idleIndexes = d.idleIndexes := rfl

@[simp] theorem Device.withWriter_track (w : Writer) : (d.withWriter w).track = d.track := rfl

@[simp] theorem Device.withWriter_lot (w : Writer) : (d.withWriter w).lot = d.lot := rfl

@[simp] theorem Device.withWriter_ports (w : Writer) : (d.withWriter w).ports = d.ports := rfl

@[simp] theorem Device.withWriter_heads (w : Writer) : (d.withWriter w).heads = d.heads := rfl

@[simp] theorem Device.withWriter_stations (w : Writer) : (d.withWriter w).stations = d.stations := rfl

@[simp] theorem Device.withWriter_gates (w : Writer) : (d.withWriter w).gates = d.gates := rfl

@[simp] theorem Device.withWriter_sweep (w : Writer) : (d.withWriter w).sweep = d.sweep := rfl

@[simp] theorem Device.withWriter_sensor (w : Writer) : (d.withWriter w).sensor = d.sensor := rfl

@[simp] theorem Device.withWriter_timebase (w : Writer) : (d.withWriter w).timebase = d.timebase := rfl

@[simp] theorem Device.withWriter_slate (w : Writer) : (d.withWriter w).slate = d.slate := rfl

@[simp] theorem Device.withWriter_journal (w : Writer) : (d.withWriter w).journal = w.journal := rfl

@[simp] theorem Device.withWriter_port (w : Writer) :
    (d.withWriter w).port = { d.port with events := w.events } := rfl

@[simp] theorem Device.withWriter_held (w : Writer) : (d.withWriter w).held = d.held := rfl

@[simp] theorem Device.withWriter_mem (w : Writer) : (d.withWriter w).mem = w.mem := rfl

/-! ### `Device.markTaken` -/

@[simp] theorem Device.markTaken_phase (n : Fin 16) : (d.markTaken n).phase = d.phase := rfl

@[simp] theorem Device.markTaken_phi (n : Fin 16) : (d.markTaken n).phi = d.phi := rfl

@[simp] theorem Device.markTaken_k (n : Fin 16) : (d.markTaken n).k = d.k := rfl

@[simp] theorem Device.markTaken_idleIndexes (n : Fin 16) : (d.markTaken n).idleIndexes = d.idleIndexes := rfl

@[simp] theorem Device.markTaken_track (n : Fin 16) : (d.markTaken n).track = d.track := rfl

@[simp] theorem Device.markTaken_lot (n : Fin 16) : (d.markTaken n).lot = d.lot := rfl

@[simp] theorem Device.markTaken_ports (n : Fin 16) : (d.markTaken n).ports = d.ports := rfl

@[simp] theorem Device.markTaken_heads (n : Fin 16) : (d.markTaken n).heads = d.heads := rfl

@[simp] theorem Device.markTaken_stations (n : Fin 16) : (d.markTaken n).stations = d.stations := rfl

@[simp] theorem Device.markTaken_gates (n : Fin 16) : (d.markTaken n).gates = d.gates := rfl

@[simp] theorem Device.markTaken_sweep (n : Fin 16) : (d.markTaken n).sweep = d.sweep := rfl

@[simp] theorem Device.markTaken_sensor (n : Fin 16) : (d.markTaken n).sensor = d.sensor := rfl

@[simp] theorem Device.markTaken_timebase (n : Fin 16) : (d.markTaken n).timebase = d.timebase := rfl

@[simp] theorem Device.markTaken_slate (n : Fin 16) :
    (d.markTaken n).slate = { d.slate with taken := d.slate.taken.set n true, cursor := n } := rfl

@[simp] theorem Device.markTaken_journal (n : Fin 16) : (d.markTaken n).journal = d.journal := rfl

@[simp] theorem Device.markTaken_port (n : Fin 16) : (d.markTaken n).port = d.port := rfl

@[simp] theorem Device.markTaken_held (n : Fin 16) : (d.markTaken n).held = d.held := rfl

@[simp] theorem Device.markTaken_mem (n : Fin 16) : (d.markTaken n).mem = writeWord d.mem (cellBase n) 2 := rfl

/-! ### `Device.complete` -/

@[simp] theorem Device.complete_phase (n : Fin 16) (c : ResultCode) (v : DWord) :
    (d.complete n c v).phase = d.phase := rfl

@[simp] theorem Device.complete_phi (n : Fin 16) (c : ResultCode) (v : DWord) : (d.complete n c v).phi = d.phi := rfl

@[simp] theorem Device.complete_k (n : Fin 16) (c : ResultCode) (v : DWord) : (d.complete n c v).k = d.k := rfl

@[simp] theorem Device.complete_idleIndexes (n : Fin 16) (c : ResultCode) (v : DWord) :
    (d.complete n c v).idleIndexes = d.idleIndexes := rfl

@[simp] theorem Device.complete_track (n : Fin 16) (c : ResultCode) (v : DWord) :
    (d.complete n c v).track = d.track := rfl

@[simp] theorem Device.complete_lot (n : Fin 16) (c : ResultCode) (v : DWord) : (d.complete n c v).lot = d.lot := rfl

@[simp] theorem Device.complete_ports (n : Fin 16) (c : ResultCode) (v : DWord) :
    (d.complete n c v).ports = d.ports := rfl

@[simp] theorem Device.complete_heads (n : Fin 16) (c : ResultCode) (v : DWord) :
    (d.complete n c v).heads = d.heads := rfl

@[simp] theorem Device.complete_stations (n : Fin 16) (c : ResultCode) (v : DWord) :
    (d.complete n c v).stations = d.stations := rfl

@[simp] theorem Device.complete_gates (n : Fin 16) (c : ResultCode) (v : DWord) :
    (d.complete n c v).gates = d.gates := rfl

@[simp] theorem Device.complete_sweep (n : Fin 16) (c : ResultCode) (v : DWord) :
    (d.complete n c v).sweep = d.sweep := rfl

@[simp] theorem Device.complete_sensor (n : Fin 16) (c : ResultCode) (v : DWord) :
    (d.complete n c v).sensor = d.sensor := rfl

@[simp] theorem Device.complete_timebase (n : Fin 16) (c : ResultCode) (v : DWord) :
    (d.complete n c v).timebase = d.timebase := rfl

@[simp] theorem Device.complete_slate (n : Fin 16) (c : ResultCode) (v : DWord) :
    (d.complete n c v).slate = { d.slate with taken := d.slate.taken.set n false } := rfl

@[simp] theorem Device.complete_journal (n : Fin 16) (c : ResultCode) (v : DWord) :
    (d.complete n c v).journal = d.journal := rfl

@[simp] theorem Device.complete_port (n : Fin 16) (c : ResultCode) (v : DWord) :
    (d.complete n c v).port = { d.port with events := d.port.events ||| Event.slate.bit } := rfl

@[simp] theorem Device.complete_held (n : Fin 16) (c : ResultCode) (v : DWord) :
    (d.complete n c v).held = d.held := rfl

@[simp] theorem Device.complete_mem (n : Fin 16) (c : ResultCode) (v : DWord) :
    (d.complete n c v).mem =
      writeWord (writeDWord (writeWord d.mem (cellBase n + 6) c.code) (cellBase n + 8) v) (cellBase n) 3 := rfl

/-! ### `Device.produce` -/

@[simp] theorem Device.produce_phase (r : Record) : (d.produce r).phase = d.phase := rfl

@[simp] theorem Device.produce_phi (r : Record) : (d.produce r).phi = d.phi := rfl

@[simp] theorem Device.produce_k (r : Record) : (d.produce r).k = d.k := rfl

@[simp] theorem Device.produce_idleIndexes (r : Record) : (d.produce r).idleIndexes = d.idleIndexes := rfl

@[simp] theorem Device.produce_track (r : Record) : (d.produce r).track = d.track := rfl

@[simp] theorem Device.produce_lot (r : Record) : (d.produce r).lot = d.lot := rfl

@[simp] theorem Device.produce_ports (r : Record) : (d.produce r).ports = d.ports := rfl

@[simp] theorem Device.produce_heads (r : Record) : (d.produce r).heads = d.heads := rfl

@[simp] theorem Device.produce_stations (r : Record) : (d.produce r).stations = d.stations := rfl

@[simp] theorem Device.produce_gates (r : Record) : (d.produce r).gates = d.gates := rfl

@[simp] theorem Device.produce_sweep (r : Record) : (d.produce r).sweep = d.sweep := rfl

@[simp] theorem Device.produce_sensor (r : Record) : (d.produce r).sensor = d.sensor := rfl

@[simp] theorem Device.produce_timebase (r : Record) : (d.produce r).timebase = d.timebase := rfl

@[simp] theorem Device.produce_slate (r : Record) : (d.produce r).slate = d.slate := rfl

@[simp] theorem Device.produce_journal (r : Record) :
    (d.produce r).journal = (d.writer.produce r d.k d.lot.lotId).journal := rfl

@[simp] theorem Device.produce_port (r : Record) :
    (d.produce r).port = { d.port with events := (d.writer.produce r d.k d.lot.lotId).events } := rfl

@[simp] theorem Device.produce_held (r : Record) : (d.produce r).held = d.held := rfl

@[simp] theorem Device.produce_mem (r : Record) : (d.produce r).mem = (d.writer.produce r d.k d.lot.lotId).mem := rfl

/-! ### The writer of a part -/

@[simp] theorem Device.writer_journal : d.writer.journal = d.journal := rfl

@[simp] theorem Device.writer_mem : d.writer.mem = d.mem := rfl

@[simp] theorem Device.writer_events : d.writer.events = d.port.events := rfl

/-! ### The queue -/

/-- A command leaves the queue as it is. -/
@[simp] theorem State.act_next (s : State) (f : Device → Device) : s.act f = .next { s with dev := f s.dev } := rfl

end Sys2Proof.Machine
end

