-- ==== Sys2Proof/Laws/Slate.lean ====
section
/-! SUPPORT. What a take and an answer of the Slate Scanner do to the part (R164, R168), said once. -/

namespace Sys2Proof.Machine

theorem cellBase_lt (n : Fin 16) : cellBase n + 64 ≤ 0x0500 := by unfold cellBase; omega

theorem vector_set_set {α : Type} {k : Nat} (v : Vector α k) (i : Fin k) (a b : α) : (v.set i a).set i b = v.set i b := by
  apply Vector.ext
  intro j hj
  simp only [Vector.getElem_set]
  split <;> rfl

theorem vector_set_self {α : Type} {k : Nat} (v : Vector α k) (i : Fin k) {a : α} (h : v[i] = a) : v.set i a = v := by
  apply Vector.ext
  intro j hj
  simp only [Vector.getElem_set]
  split
  · next h' => subst h'; exact h.symm
  · rfl

/-- A take runs the command on the part in which the cell is TAKEN. -/
theorem Device.take_eq {d : Device} {n : Fin 16} (h : d.slate.taken[n] = false) (f : Device → Device) :
    d.take n f = f (d.markTaken n) := by
  unfold Device.take
  rw [if_neg (by rw [h]; decide)]

/-- A command from a cell, in operation, with the cell not in the taken set. -/
theorem State.event_take {s : State} {n : Fin 16} (h : Takes s n) (f : Device → Device) :
    s.event (fun d => d.take n f) = .next { s with dev := f (s.dev.markTaken n) } := by
  show Host.Outcome.next { s with dev := s.dev.whenOperating (fun d => d.take n f) } = _
  unfold Device.whenOperating
  rw [if_pos h.1]
  show Host.Outcome.next { s with dev := s.dev.take n f } = _
  rw [Device.take_eq h.2.1]

/-- An event in operation. -/
theorem State.event_operating {s : State} (h : s.dev.phase = .operating) (f : Device → Device) :
    s.event f = .next { s with dev := f s.dev } := by
  show Host.Outcome.next { s with dev := s.dev.whenOperating f } = _
  unfold Device.whenOperating
  rw [if_pos h]

/-- The bytes of an answer, and what it leaves. -/
theorem complete_reads {m : Memory} (h : Memory.wf m = true) (n : Fin 16) (code : Word) (detail : DWord) :
    let m' := writeWord (writeDWord (writeWord m (cellBase n + 6) code) (cellBase n + 8) detail) (cellBase n) 3
    Memory.wf m' = true ∧ readWord m' (cellBase n) = 3 ∧ readWord m' (cellBase n + 6) = code
      ∧ readDWord m' (cellBase n + 8) = detail ∧ ∀ a, ¬ AnswerByte n a → readByte m' a = readByte m a := by
  have h1 := memoryWf_writeWord h (cellBase n + 6) code
  have h2 := memoryWf_writeDWord h1 (cellBase n + 8) detail
  have h3 := memoryWf_writeWord h2 (cellBase n) 3
  refine ⟨h3, readWord_writeWord h2 _ _, ?_, ?_, ?_⟩
  · rw [readWord_writeWord_outside h2 (by omega), readWord_writeDWord_outside h1 (by omega), readWord_writeWord h]
  · rw [readDWord_writeWord_outside h2 (by omega), readDWord_writeDWord h1]
  · intro a ha
    unfold AnswerByte at ha
    rw [readByte_writeWord_outside h2 (by omega), readByte_writeDWord_outside h1 (by omega),
      readByte_writeWord_outside h (by omega)]

/-- The Writer after a take tracks the Writer before it. -/
theorem tracks_markTaken {d : Device} (h : Memory.wf d.mem = true) (n : Fin 16) :
    Tracks 0 d.writer (d.markTaken n).writer := by
  have hc := cellBase_lt n
  refine ⟨rfl, by simp, h, memoryWf_writeWord h _ _, fun a ha => ?_⟩
  show readByte (writeWord d.mem (cellBase n) 2) a = readByte d.mem a
  exact readByte_writeWord_outside h (by omega)

/-- The Writer after an answer tracks the Writer before it, with the SLATE event besides. -/
theorem tracks_complete {d : Device} (h : Memory.wf d.mem = true) (n : Fin 16) (c : ResultCode) (v : DWord) :
    Tracks Event.slate.bit d.writer (d.complete n c v).writer := by
  have hc := cellBase_lt n
  obtain ⟨hw, -, -, -, ho⟩ := complete_reads h n c.code v
  refine ⟨rfl, rfl, h, hw, fun a ha => ?_⟩
  exact ho a (by unfold AnswerByte; omega)

/-- A production by a part that tracks another, with the same K and lot id, tracks the other's production. -/
theorem tracks_records {x : BitVec 7} {d d' : Device} (t : Tracks x d.writer d'.writer) (hk : d'.k = d.k)
    (hl : d'.lot.lotId = d.lot.lotId) (r : Record) : Tracks x (d.records r) (d'.produce r).writer := by
  have h := t.produce r d.k d.lot.lotId
  rw [← hk, ← hl] at h
  rw [Device.records, ← hk, ← hl]
  exact h

/-- A production touches the pages alone. -/
theorem produce_pagesOnly {d : Device} (h : Memory.wf d.mem = true) (r : Record) :
    PagesOnly d.mem (d.produce r).mem := Writer.produce_pagesOnly (w := d.writer) h r d.k d.lot.lotId

theorem memoryWf_markTaken {d : Device} (h : Memory.wf d.mem = true) (n : Fin 16) :
    Memory.wf (d.markTaken n).mem = true := memoryWf_writeWord h _ _

/-- A command whose take writes its answer: `e0` is the part before the answer, `w'` the Writer's work after the take, `w`
the same work without the take. -/
theorem answered {d e e0 : Device} {n : Fin 16} {code : ResultCode} {detail : DWord} {w w' : Writer}
    {flags : BitVec 7} (hd : Memory.wf d.mem = true) (ht : d.slate.taken[n] = false) (track : Tracks 0 w w')
    (pages : PagesOnly (d.markTaken n).mem w'.mem)
    (he : e0 = { e with
      mem := w'.mem
      journal := w'.journal
      slate := (d.markTaken n).slate
      port := { e.port with events := w'.events ||| flags } }) :
    Answered d e (e0.complete n code detail) n code detail w flags := by
  subst he
  have hc := cellBase_lt n
  obtain ⟨-, h1, h2, h3, h4⟩ := complete_reads pages.wf n code.code detail
  refine ⟨?_, h1, h2, h3, fun a ha hn => ?_, fun a ha => ?_⟩
  · unfold Device.complete Device.markTaken
    simp only [vector_set_set, vector_set_self _ _ ht, track.journal, track.events]
    simp
  · refine (h4 a hn).trans ((pages.below a ha).trans (readByte_writeWord_outside hd ?_))
    unfold AnswerByte at hn
    omega
  · exact (h4 a (by unfold AnswerByte; omega)).trans (track.above a ha)

/-- An answer that changes nothing else: a refusal, or a command with no other effect. -/
theorem answered_plain {d e : Device} {n : Fin 16} {code : ResultCode} {detail : DWord} (hd : Memory.wf d.mem = true)
    (ht : d.slate.taken[n] = false) {e0 : Device}
    (he : e0 = { e with
      mem := (d.markTaken n).mem
      journal := d.journal
      slate := (d.markTaken n).slate
      port := { e.port with events := d.port.events } }) :
    Answered d e (e0.complete n code detail) n code detail d.writer 0 := by
  have hw : Memory.wf (d.markTaken n).mem = true := memoryWf_writeWord hd _ _
  refine answered (w' := (d.markTaken n).writer) hd ht (tracks_markTaken hd n) (PagesOnly.refl hw) ?_
  rw [he]
  simp

/-- A take whose command waits for its answer. -/
theorem heldTaken {d e e0 : Device} {n : Fin 16} {w w' : Writer} {flags : BitVec 7} (hd : Memory.wf d.mem = true)
    (track : Tracks 0 w w') (pages : PagesOnly (d.markTaken n).mem w'.mem)
    (he : e0 = { e with
      mem := w'.mem
      journal := w'.journal
      slate := (d.markTaken n).slate
      port := { e.port with events := w'.events ||| flags } }) :
    HeldTaken d e e0 n w flags := by
  subst he
  have hc := cellBase_lt n
  refine ⟨?_, ?_, fun a ha hn => ?_, fun a ha => track.above a ha⟩
  · unfold Device.markTaken
    simp [track.journal, track.events]
  · show readWord w'.mem (cellBase n) = 2
    unfold readWord
    rw [pages.below _ (by omega), pages.below _ (by omega)]
    exact readWord_writeWord hd (cellBase n) 2
  · show readByte w'.mem a = readByte d.mem a
    rw [pages.below a ha]
    exact readByte_writeWord_outside hd (by omega)

/-- A later answer. -/
theorem answeredLater {d e e0 : Device} {n : Fin 16} {code : ResultCode} {detail : DWord} {w : Writer} {flags : BitVec 7}
    (pages : PagesOnly d.mem w.mem)
    (he : e0 = { e with
      mem := w.mem
      journal := w.journal
      slate := d.slate
      port := { e.port with events := w.events ||| flags } }) :
    AnsweredLater d e (e0.complete n code detail) n code detail w flags := by
  subst he
  have hc := cellBase_lt n
  obtain ⟨-, h1, h2, h3, h4⟩ := complete_reads pages.wf n code.code detail
  refine ⟨rfl, h1, h2, h3, fun a ha hn => ?_, fun a ha => ?_⟩
  · exact (h4 a hn).trans (pages.below a ha)
  · exact h4 a (by unfold AnswerByte; omega)

end Sys2Proof.Machine
end

