-- ==== Sys2Proof/Tests/Slice0.lean ====
section
/-! SUPPORT. Tests. The expected values come from the manual's worked cases and tables, named in each docstring, or from
its rules by hand. A theorem named `witness_…` shows a state and operands that meet all the hypotheses of the statements
it names, so that none of them says nothing. -/

namespace Sys2Proof.Tests
open Sys2Proof Sys2Proof.Machine

-- One theorem at a time: the kernel's evaluations side by side each hold a thread.
set_option Elab.async false

/-! ## States -/

/-- The part with an empty queue. -/
def part (d : Device) : State := { pending := [], idles := 0, dev := d }

/-- The part after a command. -/
def after (c : Instr) (d : Device) : Device :=
  match exec c (part d) with
  | .next t => t.dev
  | .fault _ => d
  | .refused _ => d

/-- A part in operation, its lot IDLE and every block at its reset value. -/
def idle : Device := Device.atReset .operating []

/-- P 32, S0 at 2, gate 0 at 10, W 20, C 25. -/
def geometry : Geometry where
  p := 32
  stations := #v[some 2, none, none]
  gates := (Vector.replicate 24 none).set 0 (some 10)
  w := 20
  c := 25

/-- Copies with that geometry; head 0A fitted with serial 100. -/
def copy : MachineCopy where
  geometry := geometry
  contactDelay := 1500
  relaySettle := 4000
  profiles := Vector.replicate 25 { delay := 2000, hit := 3000, hold := 600, duty := 4, carrier := 200 }
  heads := Vector.replicate 6
    { fitted := true, range := 5, serial := 100, gains := Vector.replicate 8 16777216, nominal := 1000000,
      driftLimit := 100 }

/-- Bank A: E 4,000,000, r 3, N 8, α +100, T_ref 400, max retests 1, one grade −1,000..+1,000 with guard 100 to gate 0,
capacity 3 of gate 0; cell 7 holds TAKEN. -/
def lotMemory : Memory :=
  [(0x2C0, 2), (0x1000, 0x00), (0x1001, 0x09), (0x1002, 0x3D), (0x1004, 3), (0x1006, 8), (0x1008, 100), (0x100A, 0x90),
    (0x100B, 0x01), (0x100C, 1), (0x100E, 1), (0x1010, 0xFF), (0x1011, 0xFF), (0x1018, 0xFF), (0x1019, 0xFF),
    (0x1020, 3), (0x1080, 0x18), (0x1081, 0xFC), (0x1082, 0xFF), (0x1083, 0xFF), (0x1084, 0xE8), (0x1085, 0x03),
    (0x1088, 100), (0x108E, 0xFF)].filter (fun c => decide (c.2 ≠ 0))

/-- A part loaded in bank A. -/
def loaded (serial : DWord) : Pocket :=
  { Pocket.empty with state := .loaded, serial := some serial, bank := some .bankA }

/-- A part graded 0 with one reading. -/
def graded (serial : DWord) : Pocket :=
  { loaded serial with
    state := .graded, attempts := 1, deviation := some 120, outcome := some .graded, grade := some 0, target := some 0
    readings := [{ station := 0, side := .sideA, deviation := 120, tempHeld := false, tempDefault := false }] }

/-- A lot that runs on bank A with five parts: pocket 28 LOADED comes to S0 at the next index event, 29 MEASURING is at
S0, 4 GRADED comes to gate 0, 5 FIRED is at gate 0 with its window open, 19 CARRY comes to the clear position, and pocket
26 comes to the load position EMPTY. Head 0A is ACTIVE. -/
def running : Device :=
  { idle with
    phi := 5
    k := 37
    track := (((((Vector.replicate 96 Pocket.empty).set 28 (loaded 3)).set 29
      { loaded 4 with state := .measuring, attempts := 1 }).set 4 (graded 5)).set 5
      { graded 6 with state := .fired }).set 19 { loaded 7 with state := .carry, outcome := some .skipped }
    lot := { Lot.reset with
      state := .running, lotId := 9, nextSerial := 8, active := some .bankA, load := some .bankA
      counters := (Vector.replicate 48 0).set 0 5 }
    ports := (Vector.replicate 6 Port.reset).set 0
      { Port.reset with
        link := .locked, silence := true, serial := some 100
        slot := some { purpose := .part 29, tag := 37, sending := .sent 3 8 } }
    heads := (Vector.replicate 6 Head.reset).set 0 { Head.reset with state := .active }
    stations := #v[{ Station.reset with state := .ready }, Station.reset, Station.reset]
    gates := (Vector.replicate 24 Gate.reset).set 0
      { Gate.reset with
        tally := 1, capacity := 3, windows := [{ pocket := 5, k := 37 }]
        fire := some { pocket := 5, k := 37, run := { phase := .delay, heldOff := false, on := false, period := 0,
                                                      onPart := 0 } } }
    sensor := { Sensor.reset with guardClosed := true, protect := false, driven := some 0 }
    held := some copy
    mem := lotMemory }

/-- The same lot with a LOT_END pending in cell 7, taken in RUNNING. -/
def draining : Device :=
  { running with
    lot := { running.lot with state := .draining, endCell := some 7 }
    slate := { Slate.reset with taken := (Vector.replicate 16 false).set 7 true } }

/-- The lot halted with cause JAM. -/
def halted : Device :=
  { running with
    lot := { running.lot with state := .halted, cause := some .jam, ret := some .running }
    gates := running.gates.set 0 { running.gates[0] with fire := none } }

/-- The lot with head 0B STANDBY behind a REFERENCE trigger of K = 37, and a HEAD_SELECT of cell 7 waiting for a switch of
station 0 to side B. -/
def settling : Device :=
  { running with
    ports := running.ports.set 1
      { Port.reset with
        link := .locked, silence := true, serial := some 100
        slot := some { purpose := .reference, tag := 37, sending := .sent 5 16 } }
    heads := running.heads.set 1 { Head.reset with state := .standby }
    stations := running.stations.set 0
      { state := .settling, side := .sideA, pending := some .sideB, select := some 7 }
    slate := { Slate.reset with taken := (Vector.replicate 16 false).set 7 true } }

/-- The lot with station 0 FAILED, both its heads OFFLINE. -/
def failed : Device :=
  { running with
    track := running.track.set 29 Pocket.empty
    ports := Vector.replicate 6 Port.reset
    heads := Vector.replicate 6 Head.reset
    stations := running.stations.set 0 { Station.reset with state := .failed } }

/-- The lot one index event later, the fire of gate 0 over, its window of K = 37 still open, and a BIN_SWAP_BEGIN of cell 7
waiting for it. -/
def aged : Device :=
  { running with
    k := 38
    gates := halted.gates.set 0 { halted.gates[0] with swap := some 7, offline := true }
    slate := { Slate.reset with taken := (Vector.replicate 16 false).set 7 true } }

/-- The bytes of words at rising addresses. -/
def ofWords (words : List (Nat × Nat)) : Memory :=
  (words.flatMap (fun w => [(w.1, BitVec.ofNat 8 w.2), (w.1 + 1, BitVec.ofNat 8 (w.2 / 256))])).filter
    (fun c => decide (c.2 ≠ 0))

/-- A valid machine table (P 32, S0 at 2, gate 0 at 10, W 20, C 25, head 0A) and a valid bank A. -/
def tableMemory : Memory :=
  ofWords ([(0x800, 32), (0x802, 1), (0x808, 2), (0x810, 10)]
    ++ (List.range 23).map (fun i => (0x812 + 2 * i, 0xFFFF))
    ++ [(0x840, 20), (0x842, 25), (0x844, 500), (0x846, 1500), (0x848, 4000),
      (0x850, 2000), (0x852, 3000), (0x854, 6000), (0x856, 4), (0x858, 100),
      (0x940, 2000), (0x942, 3000), (0x944, 6000), (0x946, 4), (0x948, 100), (0xA00, 1), (0xA02, 5), (0xA04, 100)]
    ++ (List.range 8).map (fun r => (0xA0A + 4 * r, 0x100))
    ++ [(0xA28, 0x4240), (0xA2A, 0x0F), (0xA2C, 100)])
  ++ lotMemory.drop 1

/-- A part in IDLE with that table. -/
def ready : Device := { idle with sensor := { Sensor.reset with guardClosed := true, protect := false }, mem := tableMemory }

/-! ## Witnesses of the laws -/

theorem witness_memory : Memory.wf lotMemory = true := by decide +kernel

theorem witness_gateLaw : GateLaw running := by unfold GateLaw; decide +kernel

theorem witness_lotLaw_running : LotLaw running := by
  refine ⟨(by intro _ h; cases h), ?_⟩
  exact And.intro rfl (And.intro rfl (And.intro rfl (And.intro rfl rfl)))

theorem witness_lotLaw_draining : LotLaw draining := by
  refine ⟨(by intro _ h; cases h), ?_⟩
  exact And.intro rfl (And.intro rfl (And.intro rfl (And.intro rfl rfl)))

theorem witness_lotLaw_halted : LotLaw halted := by
  refine ⟨(by intro _ h; cases h), ?_⟩
  exact And.intro rfl (And.intro rfl (And.intro rfl (And.intro rfl (Iff.intro (fun h => by cases h) (fun h => by cases h)))))

theorem witness_fitToRun : FitToRun running := by unfold FitToRun; decide +kernel

theorem witness_fireLaw : FireLaw running := by unfold FireLaw; decide +kernel

theorem witness_partsLaw : PartsLaw running := by unfold PartsLaw; decide +kernel

theorem witness_recordLaw : RecordLaw running := by
  have h : ∀ p : Fin 96, running.track[p] = loaded 3 ∨ running.track[p] = { loaded 4 with state := .measuring, attempts := 1 }
      ∨ running.track[p] = graded 5 ∨ running.track[p] = { graded 6 with state := .fired }
      ∨ running.track[p] = { loaded 7 with state := .carry, outcome := some .skipped }
      ∨ running.track[p] = Pocket.empty := by decide +kernel
  intro p
  rcases h p with h | h | h | h | h | h <;> rw [h] <;> simp +decide [RecordFields, loaded, graded, Pocket.empty]

theorem geometry_ordered : geometry.Ordered := by
  have hs : ∀ i : Fin 3, geometry.stations[i] = if i = 0 then some 2 else none := by decide
  have hg : ∀ j : Fin 24, geometry.gates[j] = if j = 0 then some 10 else none := by decide
  refine ⟨by decide, by decide, ⟨2, rfl⟩, ?_, ?_, ?_, ?_, ?_, ?_, by decide, by decide⟩ <;> simp only [hs, hg]
  · intro i x h; split at h <;> simp_all [geometry]; omega
  · intro i j x y hij h h'; split at h <;> split at h' <;> simp_all
  · intro i j x y h h'; split at h <;> split at h' <;> simp_all; omega
  · intro j y h; split at h <;> simp_all [geometry]; omega
  · intro i j y h h'; split at h <;> split at h' <;> simp_all
  · intro i x h; split at h <;> simp_all [geometry]; omega

theorem witness_turretLaw : TurretLaw running := by
  refine ⟨?_, fun _ => rfl, (by intro h; cases h), by decide +kernel, by decide +kernel⟩
  intro c h
  cases h
  exact ⟨geometry_ordered, by decide⟩

theorem witness_slotLaw : SlotLaw running := by
  have h : ∀ l : Fin 6, l ≠ 0 → (running.ports[l]).slot = none := by decide +kernel
  refine ⟨(by intro h; cases h), ?_, ?_⟩
  · intro l g q hg hq
    by_cases hl : l = 0
    · subst hl; cases hg; cases hq; decide +kernel
    · rw [h l hl] at hg; cases hg
  · intro l i g u q hg hu _ _
    by_cases hl : l = 0
    · by_cases hi : i = 0
      · rw [hl, hi]
      · rw [h i hi] at hu; cases hu
    · rw [h l hl] at hg; cases hg

/-- A part whose trigger slots are all empty. -/
theorem slotLaw_of_none (d : Device) (h : ∀ l : Fin 6, (d.ports[l]).slot = none) : SlotLaw d := by
  refine ⟨fun _ => h, ?_, ?_⟩
  · intro l g q hg; rw [h l] at hg; cases hg
  · intro l i g u q hg; rw [h l] at hg; cases hg

theorem witness_stationLaw : StationLaw running := by
  refine ⟨by decide +kernel, (by intro h; cases h), witness_slotLaw, fun st => ?_⟩
  fin_cases st
  · exact And.intro (by decide +kernel) (And.intro (by decide +kernel) (And.intro rfl rfl))
  · exact And.intro (by decide +kernel) (And.intro (by decide +kernel) (And.intro (by decide +kernel) rfl))
  · exact And.intro (by decide +kernel) (And.intro (by decide +kernel) (And.intro (by decide +kernel) rfl))

theorem witness_windowLaw : WindowLaw running := by
  have hp : ∀ p : Fin 96, (running.track[p]).state = .fired → p = 5 := by decide +kernel
  have h : ∀ j : Fin 24, j ≠ 0 → (running.gates[j]).fire = none := by decide +kernel
  refine ⟨by decide +kernel, by decide +kernel, ?_, ?_, (by intro h; cases h)⟩
  · intro q hq; exact ⟨0, { pocket := 5, k := 37 }, by decide +kernel, (hp q hq).symm⟩
  · intro j f hf _
    by_cases hj : j = 0
    · subst hj; cases hf; decide +kernel
    · rw [h j hj] at hf; cases hf

/-- IndexEndsFiresAndWindows with a window that closes, and with a swap begin that it completes. -/
theorem witness_windowLaw_aged : WindowLaw aged ∧ CellLaw aged ∧ (aged.gates[(0 : Fin 24)]).swap = some 7
    ∧ (aged.gates[(0 : Fin 24)]).keptAt (aged.k + 1) = [] ∧ (5 + aged.phi + 1) % aged.geometry.p ≠ aged.geometry.c := by
  have hp : ∀ p : Fin 96, (aged.track[p]).state = .fired → p = 5 := by decide +kernel
  have hf : ∀ j : Fin 24, (aged.gates[j]).fire = none := by decide +kernel
  refine ⟨⟨by decide +kernel, by decide +kernel, ?_, ?_, (by intro h; cases h)⟩, ⟨?_, ?_, ?_⟩, ?_, ?_, ?_⟩
  · intro q hq; exact ⟨0, { pocket := 5, k := 37 }, by decide +kernel, (hp q hq).symm⟩
  · intro j f hj; rw [hf j] at hj; cases hj
  all_goals decide +kernel

theorem witness_cellLaw : CellLaw running ∧ CellLaw draining := by
  refine ⟨⟨?_, ?_, ?_⟩, ⟨?_, ?_, ?_⟩⟩ <;> decide +kernel

/-- A running lot meets every law and steps: the statements `EveryStepKeeps…`. -/
theorem witness_step :
    ∃ t, step { pending := [.indexEvent true false], idles := 0, dev := running } = .next t := ⟨_, rfl⟩

/-! ## Witnesses of the commands -/

/-- GATE_MODE, COUNTERS_CLEAR, UNKNOWN_COMMAND, BIN_SWAP_BEGIN, BIN_SWAP_END, TEST_FIRE, HEAD_SELECT, JOURNAL_FLUSH,
TALLY_SNAPSHOT, LOT_END, LOT_START refused; with the laws above HEAD_REQUALIFY, RESUME, LOT_ABORT, BANK_SWITCH. -/
theorem witness_takes : Takes (part running) 0 ∧ Takes (part halted) 0 ∧ Takes (part idle) 15 := by
  unfold Takes; decide +kernel

/-- The commands of a part that is not operating, and of a taken cell. -/
theorem witness_notTaken : State.reset.dev.phase ≠ .operating ∧ (part draining).dev.phase = .operating
    ∧ (part draining).dev.slate.taken[(7 : Fin 16)] = true := by decide +kernel

theorem witness_image : imageWellFormed [(0, 1), (0xBFFF, 5)] = true := by decide

/-- HEAD_SELECT_COMPLETION with a switch pending. -/
theorem witness_headSelectCompletion : settling.phase = .operating ∧ Memory.wf settling.mem = true
    ∧ ∀ side, (settling.stations[(0 : Fin 3)]).pending = some side
      → (settling.heads[headOf 0 side]).state = .standby := by
  refine ⟨rfl, witness_memory, ?_⟩
  intro side h
  cases h
  decide +kernel

theorem witness_stationLaw_draining : StationLaw draining := by
  obtain ⟨h, _, ⟨_, g, g'⟩, h'⟩ := witness_stationLaw
  exact ⟨h, (by intro h; cases h), ⟨(by intro h; cases h), g, g'⟩, h'⟩

theorem witness_stationLaw_idle : StationLaw ready := by
  refine ⟨by decide +kernel, fun _ => by decide +kernel, slotLaw_of_none _ (by decide +kernel), fun st => ?_⟩
  fin_cases st <;> exact And.intro (by decide +kernel) (And.intro (by decide +kernel) (And.intro (by decide +kernel) rfl))

/-- IndexWorksAtAStation at a FAILED station. -/
theorem witness_stationLaw_failed : StationLaw failed ∧ (failed.stations[(0 : Fin 3)]).working = .failed := by
  refine ⟨⟨by decide +kernel, (by intro h; cases h), slotLaw_of_none _ (by decide +kernel), fun st => ?_⟩, by decide +kernel⟩
  fin_cases st
  · exact And.intro (by decide +kernel) (And.intro (by decide +kernel) (And.intro rfl
      (And.intro (by decide +kernel) (And.intro (by decide +kernel) (by decide +kernel)))))
  · exact And.intro (by decide +kernel) (And.intro (by decide +kernel) (And.intro (by decide +kernel) rfl))
  · exact And.intro (by decide +kernel) (And.intro (by decide +kernel) (And.intro (by decide +kernel) rfl))

/-- IndexAppliesSwitchesAndReferences with a switch pending and a HEAD_SELECT waiting, and IndexWorksAtAStation at a station
whose switch is applied at the event. -/
theorem witness_stationLaw_settling : StationLaw settling ∧ CellLaw settling
    ∧ (settling.stations[(0 : Fin 3)]).working = .ready ∧ (settling.stations[(0 : Fin 3)]).workingSide = .sideB := by
  have h : ∀ l : Fin 6, l ≠ 0 → l ≠ 1 → (settling.ports[l]).slot = none := by decide +kernel
  have h' : ∀ (l : Fin 6) (g : Trigger) (q : Fin 96), (settling.ports[l]).slot = some g → g.purpose = .part q →
      l = 0 ∧ q = 29 := by
    intro l g q hg hq
    by_cases h0 : l = 0
    · subst h0; cases hg; cases hq; exact ⟨rfl, rfl⟩
    · by_cases h1 : l = 1
      · subst h1; cases hg; cases hq
      · rw [h l h0 h1] at hg; cases hg
  refine ⟨⟨by decide +kernel, (by intro h; cases h), ⟨(by intro h; cases h), ?_, ?_⟩, fun st => ?_⟩, ⟨?_, ?_, ?_⟩, rfl, rfl⟩
  · intro l g q hg hq
    rw [(h' l g q hg hq).2]; decide +kernel
  · intro l i g u q hg hu hq hr
    rw [(h' l g q hg hq).1, (h' i u q hu hr).1]
  · fin_cases st
    · exact And.intro (by decide +kernel) (And.intro (fun _ => rfl) ⟨.sideB, rfl, by decide +kernel⟩)
    · exact And.intro (by decide +kernel) (And.intro (by decide +kernel) (And.intro (by decide +kernel) rfl))
    · exact And.intro (by decide +kernel) (And.intro (by decide +kernel) (And.intro (by decide +kernel) rfl))
  all_goals decide +kernel

theorem witness_table : validateTable tableMemory = none := by
  have h : (validateTable tableMemory == none) = true := by decide +kernel
  exact beq_iff_eq.mp h

theorem witness_bank : validateBank tableMemory .bankA (readGeometry tableMemory) ready.gates = none := by decide +kernel

/-- LOT_START, accepted. -/
theorem witness_lotStart : Takes (part ready) 0 ∧ CellLaw ready ∧ FireLaw ready ∧ ready.lot.state = .idle := by
  refine ⟨by unfold Takes; decide +kernel, ⟨?_, ?_, ?_⟩, by unfold FireLaw; decide +kernel, rfl⟩ <;> decide +kernel

/-! ## Witnesses of the index event, drops, links and signals -/

theorem witness_turretLaw_halted : TurretLaw halted := by
  refine ⟨?_, fun _ => rfl, (by intro h; cases h), by decide +kernel, by decide +kernel⟩
  intro c h
  cases h
  exact ⟨geometry_ordered, by decide⟩

/-- The load, trigger, departure, arrival and clear-check statements, in a RUNNING lot. -/
theorem witness_index_running : running.phase = .operating ∧ running.lot.state = .running ∧ running.held = some copy
    ∧ (26 + running.phi + 1) % running.geometry.p = 0 ∧ running.track[(26 : Fin 96)] = Pocket.empty
    ∧ running.geometry.c = 25 ∧ (19 + running.phi + 1) % running.geometry.p = 25
    ∧ (running.track[(19 : Fin 96)]).state = .carry := by decide +kernel

/-- IndexWorksAtAStation, with an attempt left. -/
theorem witness_index_station : copy.geometry.stations[(0 : Fin 3)] = some 2 ∧ (28 + running.phi + 1) % copy.geometry.p = 2
    ∧ (running.track[(28 : Fin 96)]).state = .loaded ∧ (running.track[(28 : Fin 96)]).bank = some .bankA
    ∧ (running.track[(28 : Fin 96)]).attempts < 1 + (readWord running.mem (bankBase .bankA + 0x0C)).toNat
    ∧ (running.stations[(0 : Fin 3)]).working = .ready ∧ (running.stations[(0 : Fin 3)]).state ≠ .disabled := by
  decide +kernel

/-- IndexSettlesDepartures: pocket 29 leaves S0 unmeasured; a LOADED part in pocket 0 would be past the last station. -/
theorem witness_index_departure : (29 + running.phi) % running.geometry.p = 2 ∧ (0 + running.phi) % running.geometry.p = 5
    ∧ (running.track[(29 : Fin 96)]).state = .measuring ∧ (running.track[(29 : Fin 96)]).bank = some .bankA
    ∧ 5 + 1 < running.geometry.p ∧ running.geometry.c ≠ 2 + 1 ∧ running.geometry.c ≠ 5 + 1
    ∧ (∀ st : Fin 3, running.geometry.stations[st] ≠ some (2 + 1) ∧ running.geometry.stations[st] ≠ some (5 + 1))
    ∧ ∀ st : Fin 3, (running.geometry.stations[st]).getD 0 < 5 + 1 := by decide +kernel

theorem witness_index_arrival : running.geometry.gates[(0 : Fin 24)] = some 10
    ∧ (4 + running.phi + 1) % running.geometry.p = 10 ∧ (running.track[(4 : Fin 96)]).state = .graded
    ∧ (running.track[(4 : Fin 96)]).target = some 0 ∧ (running.track[(4 : Fin 96)]).bank.isSome
    ∧ (running.gates[(0 : Fin 24)]).takesAt (running.k + 1) = true ∧ (aged.gates[(0 : Fin 24)]).takesAt (aged.k + 1) = false := by
  decide +kernel

/-- ValidationChargesTheFirstFailure: fields that fail. That `tableMemory` has none is `witness_table`. -/
theorem witness_validation : TableFieldFails [] 0 ∧ BankFieldFails [] .bankB 0 ∧ ProfileFails [] 23 0x138 :=
  ⟨Or.inl ⟨rfl, by decide⟩, Or.inl ⟨rfl, by decide⟩, Or.inr (Or.inl ⟨rfl, by decide⟩)⟩

theorem witness_index_halted : halted.lot.state = .halted ∧ (28 + halted.phi + 1) % halted.geometry.p = 2
    ∧ 2 ≠ halted.geometry.c ∧ (halted.track[(28 : Fin 96)]).state ≠ .fired := by decide +kernel

/-- PortEventsAndUnansweredFrames: an invalid frame before the fourth in a row, and a frame of another tag than the
trigger's. -/
theorem witness_ports : (running.ports[(0 : Fin 6)]).link = .locked ∧ (running.ports[(0 : Fin 6)]).badRun < 3
    ∧ ∀ (g : Trigger) (range samples : Byte), (running.ports[(0 : Fin 6)]).slot = some g →
      g.sending = .sent range samples → g.purpose.kind = .part → g.tag ≠ 99 := by
  refine ⟨by decide +kernel, by decide +kernel, ?_⟩
  intro g _ _ h _ _
  cases h
  decide

/-- IndexSkipsInAHaltAndLeavesTheRest in RUNNING: EMPTY, CARRY, GRADED and LOADED records that meet no work, and a record
beyond the turret. -/
theorem witness_index_leaves :
    let d : Device := { running with
      track := ((running.track.set 20 running.track[19]).set 1 (graded 9)).set 27 (loaded 10) }
    d.geometry.p = 32 ∧ (d.track[(0 : Fin 96)]).state = .empty ∧ (0 + d.phi + 1) % 32 = 6
    ∧ (d.track[(20 : Fin 96)]).state = .carry ∧ (20 + d.phi + 1) % 32 ≠ d.geometry.c
    ∧ (d.track[(1 : Fin 96)]).state = .graded ∧ d.geometry.gates[(0 : Fin 24)] ≠ some ((1 + d.phi + 1) % 32)
    ∧ (d.track[(1 : Fin 96)]).target = some 0
    ∧ (d.track[(27 : Fin 96)]).state = .loaded ∧ (27 + d.phi + 1) % 32 = 1 ∧ d.geometry.stations[(0 : Fin 3)] = some 2
    ∧ (∀ st : Fin 3, d.geometry.stations[st] ≠ some 1)
    ∧ (d.track[(32 : Fin 96)]).state = .empty := by decide +kernel

/-- PortEventsAndUnansweredFrames: the eighth valid frame in a row on link 0, with no trigger, and a DOWN link. -/
theorem witness_ports_eighth :
    let d : Device := { idle with ports := idle.ports.set 0 { Port.reset with link := .acquire, goodRun := 7 } }
    StationLaw d ∧ (d.ports[(0 : Fin 6)]).link = .acquire ∧ 7 ≤ (d.ports[(0 : Fin 6)]).goodRun
    ∧ (d.ports[(0 : Fin 6)]).slot = none ∧ (d.ports[(1 : Fin 6)]).link = .down := by
  refine ⟨⟨by decide +kernel, fun _ => by decide +kernel, slotLaw_of_none _ (by decide +kernel), fun st => ?_⟩,
    rfl, by decide +kernel, rfl, by decide +kernel⟩
  fin_cases st <;> exact And.intro (by decide +kernel) (And.intro (by decide +kernel) (And.intro (by decide +kernel) rfl))

/-- IndexInALotAdvances and IndexChecksTheClearPosition on the journal: with the laws above, pocket 19 comes to the clear
position in a lot that has its bank; a draining lot empty but for it completes at the same event. -/
theorem witness_index_records : running.lot.active = some .bankA ∧ 19 < running.geometry.p
    ∧ (19 + running.phi + 1) % running.geometry.p = running.geometry.c
    ∧ (after (.indexEvent false false)
        { draining with track := (Vector.replicate 96 Pocket.empty).set 19 draining.track[19] }).lot.state = .idle := by
  decide +kernel

/-- BaseTickSamplesTheLines: a tick that changes nothing, one that opens GUARD, and one at which switch 24 is due. -/
theorem witness_tick :
    let d : Device := { running with sensor := { running.sensor with
      dwell := true, driven := some 4, changes := (Vector.replicate 25 0).set 24 2 } }
    running.sensor.guardClosed = true ∧ (∀ i : Fin 25, running.sensor.changes[i] ≠ 2)
    ∧ (after (.baseTick true false 0) running).lot.state = .running
    ∧ (after (.baseTick false false 0) d).lot.cause = some .guardOpen
    ∧ (after (.baseTick true false 16) d).lot.cause = some .sweepFull := by decide +kernel

/-- ReadingFrameIsGraded, and LostLockTakesTheHeadOffline with CARRIER_LOST. -/
theorem witness_reading : (running.ports[(0 : Fin 6)]).link = .locked ∧ running.held = some copy
    ∧ (running.ports[(0 : Fin 6)]).slot = some { purpose := .part 29, tag := 37, sending := .sent 3 8 }
    ∧ (running.track[(29 : Fin 96)]).state = .measuring ∧ (running.track[(29 : Fin 96)]).bank = some .bankA := by
  decide +kernel

theorem witness_reference : (settling.ports[(1 : Fin 6)]).link = .locked ∧ settling.held = some copy
    ∧ (settling.ports[(1 : Fin 6)]).slot = some { purpose := .reference, tag := 37, sending := .sent 5 16 }
    ∧ (settling.heads[(1 : Fin 6)]).state = .standby := by decide +kernel

/-! ## Witnesses of grading and the journal -/

theorem witness_walks : (graded 5).bank = some .bankA ∧ (graded 5).deviation = some 120 := by decide

/-- A Writer whose page 79 holds 14 records; page 0 is FREE. -/
def lastSlot : Writer where
  journal := { Journal.reset with page := 79, isOpen := true, nextRecord := 14, nextPage := 80 }
  mem := [(0xBE00, 1), (0xBE02, 14)]
  events := 0

/-- A Writer that waits for page 3, three records withheld. -/
def stalled : Writer where
  journal := { Journal.reset with page := 3, stalled := true, nextRecord := 48, nextPage := 3, withheld := 3, firstWithheld := 45 }
  mem := [(0x2600, 2)]
  events := 0

/-- A Writer right after initialization; a page opened and not yet written; a Writer whose awaited page is FREE again. -/
theorem witness_journal_first :
    let first : Writer := { journal := Journal.reset, mem := [], events := 0 }
    let empty : Writer := { lastSlot with mem := [(0xBE00, 1)] }
    let freed : Writer := { stalled with mem := [] }
    first.journal.isOpen = false ∧ first.journal.stalled = false ∧ readWord first.mem (pageBase first.journal.page) = 0
    ∧ empty.journal.isOpen = true ∧ (readWord empty.mem (pageBase empty.journal.page + 2)).toNat < 14
    ∧ Memory.wf empty.mem = true ∧ freed.journal.stalled = true
    ∧ readWord freed.mem (pageBase freed.journal.page) = 0 := by decide +kernel

theorem witness_journal : Memory.wf lastSlot.mem = true
    ∧ (readWord lastSlot.mem (pageBase lastSlot.journal.page + 2)).toNat = 14
    ∧ ((Record.lotHalt .jam .running).bytes 14 0).length = 32 ∧ Memory.wf stalled.mem = true
    ∧ readWord stalled.mem (pageBase stalled.journal.page) ≠ 0 ∧ stalled.journal.withheld ≠ 0
    ∧ stalled.journal.withheld ≠ 0xFFFFFFFF := by decide +kernel

/-! ## Well-formedness: each check refuses an ill-formed command -/

theorem test_wellFormed_image_order : (Instr.powerOn [(5, 1), (5, 2)]).wellFormed = false := by decide
theorem test_wellFormed_image_bound : (Instr.powerOn [(0xC000, 1)]).wellFormed = false := by decide
theorem test_wellFormed_unknown : (Instr.unknownCommand 0 14).wellFormed = false := by decide
theorem test_wellFormed_hostWrite : (Instr.hostWrite 0x6004 1).wellFormed = false := by decide

/-! ## Decoding -/

/-- No row of the table has bits. -/
theorem test_decode_none : decodeTableWord 16 0xFFFF = none := rfl

/-- The frame of section 4.8 by the offsets of R187: kind 2, tag 20, flags 0B, N 8, S_pos 32,004,800 = 01E85AC0H,
S_neg −32,003,200 = FE17AB80H, T 456 = 01C8H; check word 1402 ⊕ 080B ⊕ 5AC0 ⊕ 01E8 ⊕ AB80 ⊕ FE17 ⊕ 01C8 = 137EH. -/
theorem test_decode_reading : frameCommand 0
    [0x02, 0x14, 0x0B, 0x08, 0xC0, 0x5A, 0xE8, 0x01, 0x80, 0xAB, 0x17, 0xFE, 0xC8, 0x01, 0x7E, 0x13]
    = .readingFrame 0 { tag := 20, flags := 11, n := 8, sPos := 32004800, sNeg := -32003200, t := 456 } := by decide

/-- A wrong check word is an invalid frame (R38). -/
theorem test_decode_badCheck : frameCommand 0
    [0x02, 0x14, 0x0B, 0x08, 0xC0, 0x5A, 0xE8, 0x01, 0x80, 0xAB, 0x17, 0xFE, 0xC8, 0x01, 0x7F, 0x13]
    = .invalidFrame 0 := by decide

/-! ## Arithmetic (R60, sections 4.7 to 4.12) -/

/-- The table of R60. -/
theorem test_roundDiv : roundDiv 7 2 = 4 ∧ roundDiv (-7) 2 = -4 ∧ roundDiv (-12625) 100 = -126
    ∧ roundDiv 1999999 2 = 1000000 ∧ roundDiv (-939) 2 = -470 ∧ roundDiv 49 100 = 0 ∧ roundDiv (-1) 2 = -1 := by decide

/-- R77: three readings. -/
theorem test_mean : meanOf [-476, -462, -465] = -468 := by decide

/-- The frame of section 4.8. -/
def frame48 : HeadFrame := { tag := 20, flags := 11, n := 8, sPos := 32004800, sNeg := -32003200, t := 456 }

/-- Section 4.8. -/
theorem test_reading_primary : convertReading frame48 8 16773000 4000000 100 400 none
    = (.deviation (-476) false false, some 456) := by decide +kernel

/-- Section 4.9. -/
theorem test_reading_retest : convertReading
    { tag := 21, flags := 11, n := 8, sPos := 31995000, sNeg := -31994632, t := 448 } 8 16777216 4000000 100 400 (some 456)
    = (.deviation (-462) false false, some 448) := by decide +kernel

/-- Section 4.11: the clamped row (c = 1,500, E = 100,000, T 240), and a failed contact before saturation. -/
theorem test_reading_limits : convertReading
    { tag := 0, flags := 11, n := 8, sPos := 24000, sNeg := 0, t := 240 } 8 16777216 100000 (-2000) 400 (some 480)
      = (.deviation (-999999) false false, some 240)
    ∧ (convertReading { tag := 0, flags := 5, n := 8, sPos := 24000, sNeg := 0, t := 240 } 8 16777216 100000 (-2000) 400
      (some 480)).1 = .failed .contactFail := by decide +kernel

/-- Section 4.12. -/
theorem test_reference : convertReference
    { tag := 132, flags := 10, n := 16, sPos := 16000500, sNeg := -15999996, t := 520 } 16777216 1000000 = some 16 := by
  decide +kernel

/-! ## Commands -/

/-- R7 at the maximum, R2 and R3 in a lot, and R121: INDEX is not armed after its registration. -/
theorem test_indexEvent : (after (.indexEvent true true) { idle with idleIndexes := 0xFFFF }).idleIndexes = 0xFFFF
    ∧ (after (.indexEvent false false) { running with sensor := { running.sensor with index := .armed } }).sensor.index
      = .registered
    ∧ (after (.indexEvent false false) running).phi = 6 ∧ (after (.indexEvent false false) running).k = 38 := by
  decide +kernel

/-- R10: the load position; R14, R28: a part over a CARRY pocket halts with JAM. -/
theorem test_indexEvent_ends : (after (.indexEvent true false) running).track[(26 : Fin 96)] = loaded 8
    ∧ (after (.indexEvent true true) running).lot.cause = some .jam := by decide +kernel

/-- R111: the oldest window is confirmed; the tally rises and the pocket retires. -/
theorem test_dropEdge : ((after (.dropEdge 0) running).gates[(0 : Fin 24)]).tally = 2
    ∧ (after (.dropEdge 0) running).track[(5 : Fin 96)] = Pocket.empty
    ∧ (after (.dropEdge 0) running).lot.counters[(2 : Fin 48)] = 1 := by decide +kernel

/-- R112: an edge with no window open is stray; R122: the line is not armed after it. -/
theorem test_dropEdge_stray : ((after (.dropEdge 23) running).gates[(23 : Fin 24)]).stray = 1
    ∧ (after (.dropEdge 23) { running with
        sensor := { running.sensor with drops := Vector.replicate 24 true } }).sensor.drops
      = (Vector.replicate 24 true).set 23 false := by decide +kernel

/-- The example of section 12.2: r = 3, N = 8, K = 515. -/
theorem test_contactDelayExpiry : ((after (.contactDelayExpiry 0)
    { running with ports := running.ports.set 0 { running.ports[0] with
        slot := some { purpose := .part 29, tag := 3, sending := .waiting 24000 } } }).ports[(0 : Fin 6)]).tx
    = [0x01, 0x03, 0x03, 0x08, 0x02, 0x0B] := by decide +kernel

/-- R42: the head of a lost link is OFFLINE; R47, R29: station 0 FAILED halts the lot. -/
theorem test_carrierLost : ((after (.carrierLost 0) running).heads[(0 : Fin 6)]).state = .offline
    ∧ (after (.carrierLost 0) running).lot.cause = some .primaryFailed := by decide +kernel

/-- R39: the fourth invalid frame in a row. -/
theorem test_invalidFrame : ((after (.invalidFrame 0)
    { running with ports := running.ports.set 0 { running.ports[0] with badRun := 3 } }).ports[(0 : Fin 6)]).link
    = .acquire := by decide +kernel

/-- R38: the eighth valid frame locks the link, and not the seventh. -/
theorem test_statusFrame : ((after (.statusFrame 0 frame48)
      { idle with ports := idle.ports.set 0 { Port.reset with link := .acquire, goodRun := 7 } }).ports[(0 : Fin 6)]).link
      = .locked
    ∧ ((after (.statusFrame 0 frame48)
      { idle with ports := idle.ports.set 0 { Port.reset with link := .acquire, goodRun := 6 } }).ports[(0 : Fin 6)]).link
      = .acquire := by decide +kernel

/-- R97: gate 23 is the last one; gate 24 is refused at offset 0 (code 3, R188). -/
theorem test_gateMode : ((after (.gateMode 0 23 2) idle).gates[(23 : Fin 24)]).mode = .disabled
    ∧ readWord (after (.gateMode 0 24 2) idle).mem (cellBase 0 + 6) = ResultCode.refusedInvalid.code := by decide +kernel

/-- R115: with a window open the cell waits, and the gate is offline. -/
theorem test_binSwapBegin : (after (.binSwapBegin 0 0) running).slate.taken[(0 : Fin 16)] = true
    ∧ ((after (.binSwapBegin 0 0) running).gates[(0 : Fin 24)]).offline = true := by decide +kernel

/-- R25, R26, R131: an accepted LOT_START; station 0 is FAILED, so it opens HALTED (R27). -/
theorem test_lotStart : (after (.lotStart 0 1 7 1000) ready).lot.cause = some .primaryFailed
    ∧ (after (.lotStart 0 1 7 1000) ready).timebase.interval = 500
    ∧ ((after (.lotStart 0 1 7 1000) ready).gates[(0 : Fin 24)]).capacity = 3 := by decide +kernel

/-- R31: a RESUME over a jam that is still present is refused with bit 3. -/
theorem test_resume : readDWord (after (.resume 0 true) halted).mem (cellBase 0 + 8) = 8
    ∧ (after (.resume 0 false) halted).lot.state = .running := by decide +kernel

/-- R34: the track is EMPTY, and five parts are counted ABORTED. -/
theorem test_lotAbort : (after (.lotAbort 0) running).lot.state = .idle
    ∧ (after (.lotAbort 0) running).lot.counters[(13 : Fin 48)] = 5 := by decide +kernel

/-- R153: a locked word is not written, and its address is latched; cell 7 is TAKEN. -/
theorem test_hostWrite : (after (.hostWrite 0x160 5) draining).port.firstRefused = 0x2C0
    ∧ readWord (after (.hostWrite 0x160 5) draining).mem 0x2C0 = 2 := by decide +kernel

/-- R48: the pending switch is applied, and the HEAD_SELECT completes with side B. -/
theorem test_headSelectCompletion : ((after (.headSelectCompletion 0) settling).heads[(1 : Fin 6)]).state = .active
    ∧ readDWord (after (.headSelectCompletion 0) settling).mem (cellBase 7 + 8) = 1 := by decide +kernel

/-- R180: the fifteenth record on page 79 makes it FULL and opens page 0. -/
theorem test_journal_wraps : (lastSlot.produce (.lotHalt .jam .running) 0 0).journal.page = 0
    ∧ readWord (lastSlot.produce (.lotHalt .jam .running) 0 0).mem 0xBE00 = 2 := by decide +kernel

/-- R182: the GAP record carries the withheld range; the header bytes that no table names are written 0 (12_formats.md). -/
theorem test_journal_gap : readDWord (stalled.resume 0 0).mem 0x262A = 45 ∧ readDWord (stalled.resume 0 0).mem 0x262E = 3
    ∧ readByte ({ stalled with mem := [(0x2610, 9)] } : Writer).mem 0x2610 = 9
    ∧ readByte (({ stalled with mem := [(0x2610, 9)] } : Writer).resume 0 0).mem 0x2610 = 0 := by decide +kernel

/-- With no command waiting a step counts itself and takes no command (log 2). -/
theorem test_step_idle : ∃ d, step (part idle) = .next { pending := [], idles := 1, dev := d } := ⟨_, rfl⟩

end Sys2Proof.Tests
end

