-- ==== Sys2Proof/Proofs/LotStartRefusal.lean ====
section
/-! LOT_START refused (R25). The take of the cell writes below the machine table, so validation after the take answers as
before it; what refuses the command is then read off the part before the take. -/

namespace Sys2Proof.Machine

/-! ## Validation reads the machine table and the banks alone -/

/-- Two memories read alike from the machine table upward, which takes in both banks (R151). -/
def TablesAlike (m m' : Memory) : Prop := ∀ a, 0x0800 ≤ a → readByte m' a = readByte m a

section TablesAlike

variable {m m' : Memory}

theorem TablesAlike.readWord (h : TablesAlike m m') {a : Nat} (ha : 0x0800 ≤ a) : readWord m' a = readWord m a := by
  rw [Machine.readWord, Machine.readWord, h a ha, h (a + 1) (by omega)]

theorem TablesAlike.readDWord (h : TablesAlike m m') {a : Nat} (ha : 0x0800 ≤ a) :
    readDWord m' a = readDWord m a := by
  rw [Machine.readDWord, Machine.readDWord, h.readWord ha, h.readWord (a := a + 2) (by omega)]

theorem bankBase_ge (b : Bank) : 0x1000 ≤ bankBase b := by cases b <;> simp [bankBase]

/-! ### The machine table -/

theorem TablesAlike.tableWord (h : TablesAlike m m') : tableWord m' = tableWord m := by
  funext o
  rw [Machine.tableWord, Machine.tableWord, h.readWord (by omega)]

theorem TablesAlike.tableDWord (h : TablesAlike m m') : tableDWord m' = tableDWord m := by
  funext o
  exact h.readDWord (by omega)

theorem TablesAlike.tableStation (h : TablesAlike m m') : tableStation m' = tableStation m := by
  funext st
  simp only [Machine.tableStation, h.tableWord]

theorem TablesAlike.tableGate (h : TablesAlike m m') : tableGate m' = tableGate m := by
  funext j
  simp only [Machine.tableGate, h.tableWord]

theorem TablesAlike.readGeometry (h : TablesAlike m m') : readGeometry m' = readGeometry m := by
  simp only [Machine.readGeometry, h.tableWord, h.tableStation, h.tableGate]

theorem TablesAlike.profileChecks (h : TablesAlike m m') : profileChecks m' = profileChecks m := by
  funext k
  simp only [Machine.profileChecks, h.tableWord]

theorem TablesAlike.fittedProfileChecks (h : TablesAlike m m') : fittedProfileChecks m' = fittedProfileChecks m := by
  funext k
  simp only [Machine.fittedProfileChecks, h.tableGate, h.profileChecks]

theorem TablesAlike.headChecks (h : TablesAlike m m') : headChecks m' = headChecks m := by
  funext k
  simp only [Machine.headChecks, h.tableWord, h.tableDWord]

theorem TablesAlike.tableFieldChecks (h : TablesAlike m m') : tableFieldChecks m' = tableFieldChecks m := by
  simp only [Machine.tableFieldChecks, h.tableWord, h.tableStation, h.tableGate, h.fittedProfileChecks, h.headChecks]

theorem TablesAlike.validateTable (h : TablesAlike m m') : validateTable m' = validateTable m := by
  rw [Machine.validateTable, Machine.validateTable, h.tableFieldChecks, h.readGeometry]

/-! ### The banks -/

theorem TablesAlike.bankWord (h : TablesAlike m m') : bankWord m' = bankWord m := by
  funext b o
  have := bankBase_ge b
  exact h.readWord (by omega)

theorem TablesAlike.bankDWord (h : TablesAlike m m') : bankDWord m' = bankDWord m := by
  funext b o
  have := bankBase_ge b
  exact h.readDWord (by omega)

theorem TablesAlike.bankByte (h : TablesAlike m m') (b : Bank) (o i : Nat) :
    readByte m' (bankBase b + o + i) = readByte m (bankBase b + o + i) := by
  have := bankBase_ge b
  exact h _ (by omega)

theorem TablesAlike.bankNominal (h : TablesAlike m m') : bankNominal m' = bankNominal m := by
  funext b
  simp only [Machine.bankNominal, h.bankDWord]

theorem TablesAlike.bankRange (h : TablesAlike m m') : bankRange m' = bankRange m := by
  funext b
  simp only [Machine.bankRange, h.bankWord]

theorem TablesAlike.bankSamples (h : TablesAlike m m') : bankSamples m' = bankSamples m := by
  funext b
  simp only [Machine.bankSamples, h.bankWord]

theorem TablesAlike.bankAlpha (h : TablesAlike m m') : bankAlpha m' = bankAlpha m := by
  funext b
  simp only [Machine.bankAlpha, h.bankWord]

theorem TablesAlike.bankMaxRetests (h : TablesAlike m m') : bankMaxRetests m' = bankMaxRetests m := by
  funext b
  simp only [Machine.bankMaxRetests, h.bankWord]

theorem TablesAlike.bankGradeCount (h : TablesAlike m m') : bankGradeCount m' = bankGradeCount m := by
  funext b
  simp only [Machine.bankGradeCount, h.bankWord]

theorem TablesAlike.bankMapWord (h : TablesAlike m m') : bankMapWord m' = bankMapWord m := by
  funext b i
  simp only [Machine.bankMapWord, h.bankWord]

theorem TablesAlike.bankCapacity (h : TablesAlike m m') : bankCapacity m' = bankCapacity m := by
  funext b j
  simp only [Machine.bankCapacity, h.bankWord]

theorem TablesAlike.bankGrades (h : TablesAlike m m') : bankGrades m' = bankGrades m := by
  funext b
  simp only [Machine.bankGrades, h.bankGradeCount]

theorem TablesAlike.gradeLow (h : TablesAlike m m') : gradeLow m' = gradeLow m := by
  funext b g
  simp only [Machine.gradeLow, h.bankDWord]

theorem TablesAlike.gradeHigh (h : TablesAlike m m') : gradeHigh m' = gradeHigh m := by
  funext b g
  simp only [Machine.gradeHigh, h.bankDWord]

theorem TablesAlike.gradeGuard (h : TablesAlike m m') : gradeGuard m' = gradeGuard m := by
  funext b g
  simp only [Machine.gradeGuard, h.bankDWord]

theorem TablesAlike.gradeRetest (h : TablesAlike m m') : gradeRetest m' = gradeRetest m := by
  funext b g
  simp only [Machine.gradeRetest, h.bankByte]

theorem TablesAlike.gradeTarget (h : TablesAlike m m') : gradeTarget m' = gradeTarget m := by
  funext b g
  simp only [Machine.gradeTarget, h.bankByte]

theorem TablesAlike.gradeAlternate (h : TablesAlike m m') : gradeAlternate m' = gradeAlternate m := by
  funext b g
  simp only [Machine.gradeAlternate, h.bankByte]

theorem TablesAlike.gradeChecks (h : TablesAlike m m') : gradeChecks m' = gradeChecks m := by
  funext b g
  simp only [Machine.gradeChecks, h.gradeLow, h.gradeHigh, h.gradeGuard, h.gradeRetest, h.gradeTarget,
    h.gradeAlternate]

theorem TablesAlike.bankFieldChecks (h : TablesAlike m m') : bankFieldChecks m' = bankFieldChecks m := by
  funext b
  simp only [Machine.bankFieldChecks, h.bankNominal, h.bankRange, h.bankSamples, h.bankAlpha, h.bankMaxRetests,
    h.bankGradeCount, h.bankMapWord, h.bankWord, h.bankGrades, h.gradeChecks]

theorem TablesAlike.gateUsable (h : TablesAlike m m') : gateUsable m' = gateUsable m := by
  funext b g x
  simp only [Machine.gateUsable, h.bankCapacity]

theorem TablesAlike.bankWholeChecks (h : TablesAlike m m') : bankWholeChecks m' = bankWholeChecks m := by
  funext b g gates
  simp only [Machine.bankWholeChecks, h.gradeLow, h.gradeHigh, h.gradeTarget, h.gradeAlternate, h.bankMapWord,
    h.bankCapacity, h.bankGrades, h.gateUsable]

theorem TablesAlike.validateBank (h : TablesAlike m m') : validateBank m' = validateBank m := by
  funext b g gates
  rw [Machine.validateBank, Machine.validateBank, h.bankFieldChecks, h.bankWholeChecks]

end TablesAlike

/-- The owner word of a cell lies below the machine table. -/
theorem tablesAlike_markTaken {d : Device} (hd : Memory.wf d.mem = true) (n : Fin 16) :
    TablesAlike d.mem (d.markTaken n).mem := by
  have hc := cellBase_lt n
  intro a ha
  rw [Device.markTaken_mem]
  exact readByte_writeWord_outside hd (by omega)

/-! ## What refuses a LOT_START, in the order of R25 -/

theorem bankOfCode_eq (w : Word) :
    bankOfCode w = if w = 1 then some .bankA else if w = 2 then some .bankB else none := by
  have h1 : w.toNat = 1 ↔ w = 1 := (BitVec.toNat_inj (y := (1 : Word)))
  have h2 : w.toNat = 2 ↔ w = 2 := (BitVec.toNat_inj (y := (2 : Word)))
  simp only [bankOfCode, h1, h2]

theorem bankOfCode_eq_none {w : Word} (h : w ≠ 1 ∧ w ≠ 2) : bankOfCode w = none := by
  rw [bankOfCode_eq, if_neg h.1, if_neg h.2]

theorem bankOfCode_eq_some {w : Word} (h : ¬ (w ≠ 1 ∧ w ≠ 2)) :
    bankOfCode w = some (if w = 1 then .bankA else .bankB) := by
  rw [bankOfCode_eq]
  by_cases h1 : w = 1
  · rw [if_pos h1, if_pos h1]
  · have h2 : w = 2 := by
      by_contra h2
      exact h ⟨h1, h2⟩
    rw [if_neg h1, if_pos h2, if_neg h1]

theorem invalidDetail_regionOf (b : Bank) (offset : Nat) :
    invalidDetail (regionOf b) offset
      = BitVec.ofNat 32 ((if b = .bankA then 0x20000 else 0x30000) + offset) := by
  cases b <;> rfl

/-- The take of a cell leaves what refuses a LOT_START as it was. -/
theorem Device.lotStartRefusal_markTaken {d : Device} (hd : Memory.wf d.mem = true) (n : Fin 16) (bank : Word) :
    (d.markTaken n).lotStartRefusal bank = d.lotStartRefusal bank := by
  have h := tablesAlike_markTaken hd n
  simp only [Device.lotStartRefusal, h.validateTable, h.validateBank, h.readGeometry, Device.markTaken_lot,
    Device.markTaken_gates]

section Refusal

variable {d : Device} {bank : Word} {b : Bank} {offset : Nat}

theorem Device.lotStartRefusal_of_open (h : d.lot.state ≠ .idle) :
    d.lotStartRefusal bank = some (.refusedState, 0) := by
  rw [Device.lotStartRefusal, if_pos h]

theorem Device.lotStartRefusal_of_noBank (hs : ¬ d.lot.state ≠ .idle) (hb : bankOfCode bank = none) :
    d.lotStartRefusal bank = some (.refusedInvalid, 0) := by
  rw [Device.lotStartRefusal, if_neg hs, hb]
  rfl

theorem Device.lotStartRefusal_of_table (hs : ¬ d.lot.state ≠ .idle) (hb : bankOfCode bank = some b)
    (ht : validateTable d.mem = some offset) :
    d.lotStartRefusal bank = some (.refusedInvalid, BitVec.ofNat 32 (0x10000 + offset)) := by
  simp only [Device.lotStartRefusal, if_neg hs, hb, ht]
  rfl

theorem Device.lotStartRefusal_of_bank (hs : ¬ d.lot.state ≠ .idle) (hb : bankOfCode bank = some b)
    (ht : validateTable d.mem = none) (hv : validateBank d.mem b (readGeometry d.mem) d.gates = some offset) :
    d.lotStartRefusal bank
      = some (.refusedInvalid, BitVec.ofNat 32 ((if b = .bankA then 0x20000 else 0x30000) + offset)) := by
  simp only [Device.lotStartRefusal, if_neg hs, hb, ht, hv, invalidDetail_regionOf]

end Refusal

/-! ## The answer -/

/-- A refusal after the take answers the cell and changes nothing else (R167). -/
theorem answered_refuse {d : Device} {n : Fin 16} (hd : Memory.wf d.mem = true) (ht : d.slate.taken[n] = false)
    (code : ResultCode) (detail : DWord) :
    Answered d d ((d.markTaken n).refuse n code detail) n code detail d.writer 0 :=
  answered_plain hd ht rfl

/-- A LOT_START that R25 refuses on the part before its take is answered with that refusal. -/
theorem Device.lotStart_answered {d : Device} {n : Fin 16} (hd : Memory.wf d.mem = true)
    (ht : d.slate.taken[n] = false) {bank : Word} {code : ResultCode} {detail : DWord}
    (hr : d.lotStartRefusal bank = some (code, detail)) (lotId first : DWord) :
    Answered d d ((d.markTaken n).lotStart n bank lotId first) n code detail d.writer 0 := by
  rw [← Device.lotStartRefusal_markTaken hd n] at hr
  rw [Device.lotStart, hr]
  exact answered_refuse hd ht code detail

/-- LOT_START runs on the part in which its cell is TAKEN. -/
theorem exec_lotStart {s : State} {n : Fin 16} (h : Takes s n) (bank : Word) (lotId first : DWord) :
    exec (.lotStart n bank lotId first) s
      = .next { s with dev := (s.dev.markTaken n).lotStart n bank lotId first } :=
  State.event_take h _

/-- Settles O30: each case of R25 names what refuses the command, and the answer is that refusal. -/
theorem lotStartIsRefused : Obligations.LotStartIsRefused := by
  intro s n bank lotId first h d b
  have ⟨_, ht, hd⟩ := h
  refine ⟨_, exec_lotStart h bank lotId first, ?_⟩
  by_cases hs : s.dev.lot.state ≠ .idle
  case pos =>
    rw [if_pos hs]
    exact Device.lotStart_answered hd ht (Device.lotStartRefusal_of_open hs) lotId first
  rw [if_neg hs]
  by_cases hb : bank ≠ 1 ∧ bank ≠ 2
  case pos =>
    rw [if_pos hb]
    exact Device.lotStart_answered hd ht (Device.lotStartRefusal_of_noBank hs (bankOfCode_eq_none hb)) lotId first
  rw [if_neg hb]
  have hb' : bankOfCode bank = some b := bankOfCode_eq_some hb
  split
  next offset _ htable =>
    exact Device.lotStart_answered hd ht (Device.lotStartRefusal_of_table hs hb' htable) lotId first
  next offset htable hbank =>
    exact Device.lotStart_answered hd ht (Device.lotStartRefusal_of_bank hs hb' htable hbank) lotId first
  next => trivial

end Sys2Proof.Machine
end

/-! HEAD_REQUALIFY (R52). A DRIFTED head is out of service, so its change reaches a FAILED station alone, and no ended
trigger, aborted HEAD_SELECT or halt follows it. With that said once, the command is the update of head and station, one
HEAD_EVENT and the answer. -/

namespace Sys2Proof.Machine

/-! ## How a station takes the change of a DRIFTED head (R46, R47) -/

/-- A station after its DRIFTED head of a side has become `new`: a FAILED one turns toward a head that is STANDBY. -/
def stationAfterDrifted (side : Side) (new : HeadState) (s : Station) : Station :=
  if s.state = .failed ∧ new = .standby then { s with state := .settling, pending := some side } else s

/-- READY and SETTLING stations act on the loss of an ACTIVE or STANDBY head alone. -/
theorem Station.react_drifted (s : Station) (side : Side) (new : HeadState) (headAt : Side → HeadState) :
    s.react side .drifted new headAt = stationAfterDrifted side new s := by
  unfold Station.react stationAfterDrifted
  cases s.state <;> simp

section StationAfterDrifted

variable {s : Station} {side : Side} {new : HeadState}

theorem failed_of_stationAfterDrifted_failed (h : (stationAfterDrifted side new s).state = .failed) :
    s.state = .failed := by
  unfold stationAfterDrifted at h
  split at h
  · next hs => exact hs.1
  · exact h

theorem stationAfterDrifted_select_eq_none (hs : s.pending = none → s.select = none)
    (h : (stationAfterDrifted side new s).pending = none) : (stationAfterDrifted side new s).select = none := by
  unfold stationAfterDrifted at h ⊢
  split at h
  · cases h
  · next hn => rw [if_neg hn]; exact hs h

end StationAfterDrifted

/-! ## What StationLaw says of a DRIFTED head and of its station -/

section StationLaw

variable {d : Device}

/-- A DRIFTED head is not OFFLINE, so its link is LOCKED. -/
theorem StationLaw.locked_of_drifted (law : StationLaw d) {h : Fin 6} (hh : (d.heads[h]).state = .drifted) :
    (d.ports[h]).link = .locked := by
  obtain ⟨offline, -⟩ := law
  by_contra hl
  rw [(offline h).mpr hl] at hh
  cases hh

/-- A HEAD_SELECT waits on a SETTLING station, and that has a pending switch (R51). -/
theorem StationLaw.select_eq_none (law : StationLaw d) {st : Fin 3} (hp : (d.stations[st]).pending = none) :
    (d.stations[st]).select = none := by
  obtain ⟨-, -, -, stations⟩ := law
  obtain ⟨-, settling, state⟩ := stations st
  by_contra hs
  rw [settling (Option.isSome_iff_ne_none.mpr hs)] at state
  obtain ⟨side, pending, -⟩ := state
  rw [hp] at pending
  cases pending

end StationLaw

/-! ## The change of a DRIFTED head (R42) -/

@[simp] theorem Device.headEvent_heads (d : Device) (h : Fin 6) (old new : HeadState) :
    (d.headEvent h old new).heads = d.heads := rfl

@[simp] theorem Device.headEvent_stations (d : Device) (h : Fin 6) (old new : HeadState) :
    (d.headEvent h old new).stations = d.stations := rfl

/-- With no HEAD_SELECT waiting on a station without a pending switch, none is aborted. -/
theorem Device.selectAborted_eq_self {d : Device} {st : Fin 3}
    (h : (d.stations[st]).pending = none → (d.stations[st]).select = none) : d.selectAborted st = d := by
  unfold Device.selectAborted
  cases hp : (d.stations[st]).pending with
  | some side => rfl
  | none =>
    have hs := h hp
    have he : d.updStation st (fun s => { s with select := none }) = d := by
      unfold Device.updStation
      rw [vector_set_self d.stations st (a := { d.stations[st] with select := none }) (by rw [← hs])]
    simp only [hs, he, Device.completeSome]

/-- The state that R42 gives a DRIFTED head evaluated as if it were not, its link being LOCKED. -/
def Device.requalified (d : Device) (h : Fin 6) : HeadState := if d.qualified h then .standby else .unqualified

theorem Device.requalified_ne_offline (d : Device) (h : Fin 6) : d.requalified h ≠ .offline := by
  unfold Device.requalified
  split <;> decide

theorem Device.requalified_code (d : Device) (h : Fin 6) :
    BitVec.ofNat 32 (d.requalified h).code = if d.requalified h = .standby then 2 else 1 := by
  unfold Device.requalified
  cases d.qualified h <;> rfl

theorem Device.evaluation_unqualified {d : Device} {h : Fin 6} (hl : (d.ports[h]).link = .locked) :
    d.evaluation h .unqualified = d.requalified h := by
  unfold Device.evaluation Device.requalified
  rw [if_neg (not_not_intro hl), if_neg (by decide)]
  cases d.qualified h <;> rfl

/-- The head and its station change, with one HEAD_EVENT. -/
theorem Device.changeHead_drifted {d : Device} {h : Fin 6} {new : HeadState} (hh : (d.heads[h]).state = .drifted)
    (hn : new ≠ .offline)
    (hs : (d.stations[stationOf h]).pending = none → (d.stations[stationOf h]).select = none) :
    d.changeHead h new =
      ((d.updHead h (fun x => { x with state := new })).updStation (stationOf h)
        (stationAfterDrifted (sideOf h) new)).headEvent h .drifted new := by
  have hout : (HeadState.drifted.inService && !new.inService) = false := rfl
  have hstation : ((((d.updHead h (fun x => { x with state := new })).updStation (stationOf h)
      (stationAfterDrifted (sideOf h) new)).headEvent h .drifted new).stations[stationOf h])
        = stationAfterDrifted (sideOf h) new d.stations[stationOf h] := by
    simp
  unfold Device.changeHead
  simp only [hh, hout, if_neg hn, Station.react_drifted, Bool.false_eq_true, if_false]
  rw [Device.selectAborted_eq_self, if_neg]
  · rintro ⟨-, hopen, hfailed⟩
    refine hopen (failed_of_stationAfterDrifted_failed (side := sideOf h) (new := new) ?_)
    rw [← hstation]
    exact hfailed
  · rw [hstation]
    exact stationAfterDrifted_select_eq_none hs

/-! ## The requalification of a head (R52) -/

/-- The part with a DRIFTED head requalified, before its HEAD_EVENT. -/
def Device.undrifted (d : Device) (h : Fin 6) : Device :=
  { d with
    heads := d.heads.set h { d.heads[h] with state := d.requalified h, window := [] }
    stations := d.stations.set (stationOf h)
      (stationAfterDrifted (sideOf h) (d.requalified h) d.stations[stationOf h]) }

theorem Device.requalify_of_drifted {d : Device} (law : StationLaw d) {h : Fin 6}
    (hh : (d.heads[h]).state = .drifted) :
    d.requalify h = (d.undrifted h).headEvent h .drifted (d.requalified h) := by
  have heval : (d.updHead h (fun x => { x with window := [] })).evaluation h .unqualified = d.requalified h :=
    Device.evaluation_unqualified (law.locked_of_drifted hh)
  have hstate : ((d.updHead h (fun x => { x with window := [] })).heads[h]).state = .drifted := by simpa using hh
  unfold Device.requalify
  simp only [if_pos hh, heval]
  rw [Device.changeHead_drifted hstate (d.requalified_ne_offline h) law.select_eq_none]
  simp [Device.updHead, Device.updStation, Device.undrifted]

theorem Device.requalify_of_not_drifted {d : Device} {h : Fin 6} (hh : (d.heads[h]).state ≠ .drifted) :
    d.requalify h = d.updHead h (fun x => { x with window := [] }) := if_neg hh

theorem Device.undrifted_station (d : Device) (h : Fin 6) :
    (d.undrifted h).stations[stationOf h]
      = stationAfterDrifted (sideOf h) (d.requalified h) d.stations[stationOf h] := by
  simp [Device.undrifted]

/-- The HEAD_EVENT leaves the state that the evaluation gave. -/
theorem Device.requalify_drifted_state {d : Device} (law : StationLaw d) {h : Fin 6}
    (hh : (d.heads[h]).state = .drifted) : ((d.requalify h).heads[h]).state = d.requalified h := by
  rw [Device.requalify_of_drifted law hh]
  simp [Device.undrifted]

theorem Device.requalify_other_state {d : Device} {h : Fin 6} (hh : (d.heads[h]).state ≠ .drifted) :
    ((d.requalify h).heads[h]).state = (d.heads[h]).state := by
  rw [Device.requalify_of_not_drifted hh]
  simp

/-- What StationLaw speaks of is as it was when the command runs on the part in which its cell is TAKEN. -/
theorem StationLaw.markTaken {d : Device} (law : StationLaw d) (n : Fin 16) : StationLaw (d.markTaken n) := law

/-! ## The answer -/

theorem indexOf_of_lt {n x : Nat} (h : x < n) : indexOf n x = some ⟨x, h⟩ := dif_pos h

theorem indexOf_of_not_lt {n x : Nat} (h : ¬ x < n) : indexOf n x = none := dif_neg h

/-- HEAD_REQUALIFY runs on the part in which its cell is TAKEN. -/
theorem exec_headRequalify {s : State} {n : Fin 16} (h : Takes s n) (head : Word) :
    exec (.headRequalify n head) s = .next { s with dev := (s.dev.markTaken n).headRequalify n head } :=
  State.event_take h _

section Answer

variable {d : Device} {n : Fin 16} {h : Fin 6}

/-- The answer to the requalification of a DRIFTED head, after one HEAD_EVENT. -/
theorem Device.requalify_drifted_answered (hd : Memory.wf d.mem = true) (ht : d.slate.taken[n] = false)
    (law : StationLaw d) (hh : (d.heads[h]).state = .drifted) (detail : DWord) :
    Answered d (d.undrifted h) (((d.markTaken n).requalify h).complete n .ok detail) n .ok detail
      (d.records (.headEvent h .drifted (d.requalified h) ((d.undrifted h).stations[stationOf h]).state)) 0x20 := by
  rw [Device.requalify_of_drifted (law.markTaken n) hh]
  have track := tracks_records (d := d) (d' := (d.markTaken n).undrifted h) (tracks_markTaken hd n) rfl rfl
  have pages := produce_pagesOnly (d := (d.markTaken n).undrifted h) (memoryWf_markTaken hd n)
  exact answered hd ht (track _) (pages _) rfl

/-- The answer to the requalification of another head, with no record. -/
theorem Device.requalify_other_answered (hd : Memory.wf d.mem = true) (ht : d.slate.taken[n] = false)
    (hh : (d.heads[h]).state ≠ .drifted) (detail : DWord) :
    Answered d (d.updHead h (fun x => { x with window := [] })) (((d.markTaken n).requalify h).complete n .ok detail)
      n .ok detail d.writer 0 := by
  rw [Device.requalify_of_not_drifted (d := d.markTaken n) hh]
  exact answered_plain hd ht rfl

end Answer

/-- Settles O22: the cases are no such head, a DRIFTED head, and any other. -/
theorem headRequalifyEvaluates : Obligations.HeadRequalifyEvaluates := by
  intro s n head h law
  have ⟨_, ht, hd⟩ := h
  refine ⟨_, exec_headRequalify h head, ?_⟩
  unfold Device.headRequalify
  by_cases hh : head.toNat < 6
  case neg =>
    rw [dif_neg hh, indexOf_of_not_lt hh]
    exact answered_refuse hd ht .refusedInvalid _
  rw [dif_pos hh, indexOf_of_lt hh]
  dsimp only
  by_cases hx : (s.dev.heads[(⟨head.toNat, hh⟩ : Fin 6)]).state = .drifted
  case pos =>
    rw [if_pos hx, Device.requalify_drifted_state (law.markTaken n) hx, Device.requalified_code]
    have answer := Device.requalify_drifted_answered hd ht law hx
      (if s.dev.requalified ⟨head.toNat, hh⟩ = .standby then 2 else 1)
    rw [Device.undrifted_station] at answer
    exact answer
  case neg =>
    rw [if_neg hx, Device.requalify_other_state (d := s.dev.markTaken n) hx]
    exact Device.requalify_other_answered hd ht hx _

end Sys2Proof.Machine

/-! The Deviation Unit's arithmetic (R60, R62 to R72, R76). The rounded division is known by its remainder: twice the
remainder lies in −den..den, and reaches an end only on the side away from zero, so another quotient lies at least as far
from the numerator. The conversions are then the model's stages with each test read off the frame's bits. -/

namespace Sys2Proof.Machine

/-! ## The rounded division (R60) -/

/-- R60: `q` is nearest to num ÷ den, distances taken `den` times, and no equally near integer lies farther from zero. -/
def IsRounding (num : Int) (den : Nat) (q : Int) : Prop :=
  (∀ z : Int, (num - q * den).natAbs ≤ (num - z * den).natAbs)
  ∧ ∀ z : Int, (num - q * den).natAbs = (num - z * den).natAbs → z.natAbs ≤ q.natAbs

/-- Rounding away from zero is symmetric in the sign. -/
theorem IsRounding.neg {num q : Int} {den : Nat} (h : IsRounding num den q) : IsRounding (-num) den (-q) := by
  have mirror (z : Int) : (-num - z * den).natAbs = (num - -z * den).natAbs := by
    rw [← Int.natAbs_neg]
    congr 1
    ring
  obtain ⟨nearest, farther⟩ := h
  constructor
  · intro z
    rw [mirror, mirror, neg_neg]
    exact nearest (-z)
  · intro z tie
    rw [mirror, mirror, neg_neg] at tie
    simpa using farther (-z) tie

/-- The rounded quotient of a numerator from zero up has a remainder of at least −den ÷ 2 and less than den ÷ 2. Another
integer is a whole `den` further away, so only one below can be as near. -/
theorem isRounding_of_remainder {num q : Int} {den : Nat} (hn : 0 ≤ num) (hq : 0 ≤ q)
    (low : -(den : Int) ≤ 2 * (num - q * den)) (high : 2 * (num - q * den) < den) : IsRounding num den q := by
  have above {z : Int} (hz : q < z) : num - z * den ≤ num - q * den - den := by nlinarith
  have below {z : Int} (hz : z < q) : num - q * den + den ≤ num - z * den := by nlinarith
  constructor
  · intro z
    rcases lt_trichotomy z q with hz | rfl | hz
    · have := below hz
      omega
    · exact le_rfl
    · have := above hz
      omega
  · intro z tie
    by_contra farther
    rcases lt_or_ge q z with hz | hz
    · have := above hz
      omega
    · have mirror : z ≤ -q - 1 := by omega
      have far : z * den ≤ -(q * den) - den := by nlinarith
      have : 0 ≤ q * den := by positivity
      omega

theorem roundDiv_natCast (n den : Nat) : roundDiv n den = ((2 * n + den) / (2 * den) : Nat) := by
  simp [roundDiv]

theorem roundDiv_neg (num : Int) (den : Nat) : roundDiv (-num) den = -roundDiv num den := by
  have half : den / (2 * den) = 0 := Nat.div_eq_zero_iff.mpr (by omega)
  unfold roundDiv
  rw [Int.natAbs_neg]
  rcases lt_trichotomy num 0 with h | rfl | h
  · rw [if_neg (by omega), if_pos h, neg_neg]
  · simp [half]
  · rw [if_pos (by omega), if_neg (by omega)]

theorem isRounding_roundDiv_natCast (n : Nat) {den : Nat} (hd : 0 < den) : IsRounding n den (roundDiv n den) := by
  rw [roundDiv_natCast]
  have division := Nat.div_add_mod (2 * n + den) (2 * den)
  have bound := Nat.mod_lt (2 * n + den) (y := 2 * den) (by omega)
  generalize (2 * n + den) / (2 * den) = q at division ⊢
  have : 2 * den * q = 2 * (q * den) := by ring
  have : ((q * den : Nat) : Int) = q * den := Nat.cast_mul q den
  exact isRounding_of_remainder (Int.natCast_nonneg n) (Int.natCast_nonneg q) (by omega) (by omega)

theorem isRounding_roundDiv (num : Int) {den : Nat} (hd : 0 < den) : IsRounding num den (roundDiv num den) := by
  obtain ⟨n, rfl | rfl⟩ := num.eq_nat_or_neg
  · exact isRounding_roundDiv_natCast n hd
  · rw [roundDiv_neg]
    exact (isRounding_roundDiv_natCast n hd).neg

/-! ## The tests and stages of a conversion -/

theorem samplesInRange_eq_false_iff (f : HeadFrame) : samplesInRange f = false ↔ f.n.toNat < 1 ∨ 16 < f.n.toNat := by
  simp only [samplesInRange, Bool.and_eq_false_iff, decide_eq_false_iff_not, not_le]

theorem contactOk_eq_false_iff (f : HeadFrame) :
    contactOk f = false ↔ ¬ (f.flags.getLsbD 0 = true ∧ f.flags.getLsbD 1 = true) := by
  rw [← Bool.and_eq_true, Bool.not_eq_true, contactOk]

theorem clampDeviation_eq (v : Int) :
    clampDeviation v = if 999999 < v then 999999 else if v < -999999 then -999999 else v := by
  unfold clampDeviation Config.deviationBound
  split
  · omega
  · split <;> omega

theorem chooseTemperature_used (f : HeadFrame) (last : Option Int) (tRef : Int) :
    (chooseTemperature f last tRef).1 = if f.flags.getLsbD 3 then f.t.toInt else last.getD tRef := by
  unfold chooseTemperature tempValid
  split
  · rfl
  · cases last <;> rfl

/-- TEMP_HELD and TEMP_DEFAULT (R70). -/
theorem chooseTemperature_flags (f : HeadFrame) (last : Option Int) (tRef : Int) :
    (chooseTemperature f last tRef).2
      = (decide (¬ f.flags.getLsbD 3 = true ∧ last.isSome = true), decide (¬ f.flags.getLsbD 3 = true ∧ last = none)) := by
  unfold chooseTemperature tempValid
  cases f.flags.getLsbD 3
  case true => rfl
  case false => cases last <;> rfl

/-- The stages of a READING conversion, with the tests as the rules state them (R62, R63, R64, R67, R68, R72). -/
theorem convertReading_eq (f : HeadFrame) (sent : Byte) (gain nominal : Nat) (alpha tRef : Int) (last : Option Int) :
    convertReading f sent gain nominal alpha tRef last =
      if f.n.toNat < 1 ∨ 16 < f.n.toNat ∨ f.n ≠ sent then (.failed .noReading, last)
      else if ¬ (f.flags.getLsbD 0 = true ∧ f.flags.getLsbD 1 = true) then (.failed .contactFail, last)
      else if f.flags.getLsbD 2 = true then (.final .openCircuit, last)
      else if correctedCount f gain ≤ 0 then (.final .shortCircuit, last)
      else if rawDeviation (correctedCount f gain) nominal ≤ -990000 then (.final .shortCircuit, last)
      else
        let choice := chooseTemperature f last tRef
        (.deviation
          (clampDeviation (rawDeviation (correctedCount f gain) nominal - correction alpha choice.1 tRef))
          choice.2.1 choice.2.2,
          if f.flags.getLsbD 3 then some f.t.toInt else last) := by
  unfold convertReading
  simp only [Bool.or_eq_true, Bool.not_eq_true', samplesInRange_eq_false_iff, decide_eq_true_iff, or_assoc,
    contactOk_eq_false_iff]
  rfl

/-- The stages of a REFERENCE conversion (R76). -/
theorem convertReference_eq (f : HeadFrame) (gain nominal : Nat) :
    convertReference f gain nominal =
      if f.n.toNat < 1 ∨ 16 < f.n.toNat then none
      else if f.flags.getLsbD 2 = true then none
      else if correctedCount f gain ≤ 0 then none
      else some (clampDeviation (rawDeviation (correctedCount f gain) nominal)) := by
  unfold convertReference
  simp only [Bool.or_eq_true, Bool.not_eq_true', samplesInRange_eq_false_iff, ite_or]
  rfl

/-- Settles O57: the rounded division by its remainder, each conversion by its stages. -/
theorem divisionAndConversions : Obligations.DivisionAndConversions := by
  refine ⟨fun num den hd => isRounding_roundDiv num hd, ?_, ?_⟩
  · intro f sent gain nominal alpha tRef last
    rw [convertReading_eq]
    simp only [chooseTemperature_used, chooseTemperature_flags, clampDeviation_eq]
    rfl
  · intro f gain nominal
    rw [convertReference_eq]
    simp only [clampDeviation_eq]
    rfl

end Sys2Proof.Machine

/-! The Grader's tests (R81, R83, R84). Both walks are one search of the grade table: it finds a grade exactly when that is
the first in table order whose window holds D. With the two windows and the placement of a decision (R85) written as the
rules state them, each test is a case split on what the search found. -/

namespace Sys2Proof.Machine

/-! ## The search of the grade table (R79) -/

/-- Grades beyond the grade count are not read, and none of them comes before a grade within it. -/
theorem find?_bankGrades_eq_some_iff {m : Memory} {b : Bank} {p : Fin 32 → Bool} {g : Fin 32} :
    (bankGrades m b).find? p = some g ↔ g.val < bankGradeCount m b ∧ p g = true ∧ ∀ i < g, p i = false := by
  rw [bankGrades, List.find?_filter, ← Fin.find?_eq_find?_finRange, Fin.find?_eq_some_iff]
  simp only [decide_eq_true_eq, and_assoc]
  refine and_congr_right fun inTable => and_congr_right fun _ => forall₂_congr fun i before => ?_
  have : i.val < bankGradeCount m b := by omega
  simp [this]

theorem find?_bankGrades_eq_none_iff {m : Memory} {b : Bank} {p : Fin 32 → Bool} :
    (bankGrades m b).find? p = none ↔ ∀ g : Fin 32, g.val < bankGradeCount m b → p g = false := by
  simp [bankGrades]

/-! ## The windows of a grade (R81, R84) -/

theorem inPlain_iff {m : Memory} {b : Bank} {dev : Int} {g : Fin 32} :
    inPlain m b dev g = true ↔ gradeLow m b g ≤ dev ∧ dev ≤ gradeHigh m b g := by
  simp only [inPlain, Bool.and_eq_true, decide_eq_true_eq]

theorem inWidened_iff {m : Memory} {b : Bank} {dev : Int} {g : Fin 32} :
    inWidened m b dev g = true ↔
      gradeLow m b g - gradeGuard m b g ≤ dev ∧ dev ≤ gradeHigh m b g + gradeGuard m b g := by
  simp only [inWidened, Bool.and_eq_true, decide_eq_true_eq]

theorem inCore_iff {m : Memory} {b : Bank} {dev : Int} {g : Fin 32} :
    inCore m b dev g = true ↔
      gradeLow m b g + gradeGuard m b g ≤ dev ∧ dev ≤ gradeHigh m b g - gradeGuard m b g := by
  simp only [inCore, Bool.and_eq_true, decide_eq_true_eq]

/-! ## The guard walk (R81) -/

/-- Only the first grade whose widened window holds D is asked for its core and its retest flag. -/
theorem guarded_iff {m : Memory} {b : Bank} {dev : Int} :
    guarded m b dev = true ↔
      ∃ g, (bankGrades m b).find? (inWidened m b dev) = some g ∧ ¬ inCore m b dev g = true ∧ gradeRetest m b g = 1 := by
  unfold guarded
  cases (bankGrades m b).find? (inWidened m b dev) <;> simp

/-! ## The placement of a decision (R85) -/

@[simp] theorem Pocket.place_outcome (r : Pocket) (o : PartOutcome) (grade : Option (Fin 32)) (target : Target) :
    (r.place o grade target).outcome = some o := by cases target <;> rfl

@[simp] theorem Pocket.place_grade (r : Pocket) (o : PartOutcome) (grade : Option (Fin 32)) (target : Target) :
    (r.place o grade target).grade = grade := by cases target <;> rfl

theorem targetOf_of_lt {x : Nat} (h : x < 24) : targetOf x = .gate ⟨x, h⟩ := by
  rw [targetOf, indexOf_of_lt h]

theorem targetOf_of_not_lt {x : Nat} (h : ¬ x < 24) : targetOf x = .sweep := by
  rw [targetOf, indexOf_of_not_lt h]

/-- UNGRADED is the fifth entry of the outcome map (R138). -/
theorem outcomeTarget_ungraded (m : Memory) (b : Bank) :
    outcomeTarget m b .ungraded = targetOf (readWord m (bankBase b + 0x18)).toNat := rfl

/-! ## The final walk (R84) -/

section FinalWalk

variable {m : Memory} {r : Pocket} {b : Bank} {dev : Int}

theorem Pocket.bankOr_of_bank (hbank : r.bank = some b) : r.bankOr = b := by
  rw [Pocket.bankOr, hbank, Option.getD_some]

theorem finalWalk_of_grade {g : Fin 32} (hbank : r.bank = some b) (hdev : r.deviation = some dev)
    (found : (bankGrades m b).find? (inPlain m b dev) = some g) :
    finalWalk m r = r.place .graded (some g) (targetOf (gradeTarget m b g).toNat) := by
  rw [finalWalk, Pocket.bankOr_of_bank hbank, hdev, Option.getD_some, found]

theorem finalWalk_of_no_grade (hbank : r.bank = some b) (hdev : r.deviation = some dev)
    (unfound : (bankGrades m b).find? (inPlain m b dev) = none) :
    finalWalk m r = r.place .ungraded none (outcomeTarget m b .ungraded) := by
  rw [finalWalk, Pocket.bankOr_of_bank hbank, hdev, Option.getD_some, unfound, placeFixed,
    Pocket.bankOr_of_bank hbank]

end FinalWalk

/-! ## The retest-possible test (R83) -/

theorem Device.retestAhead_iff {d : Device} {position : Nat} {st : Fin 3} :
    d.retestAhead position st = true ↔
      ∃ x, (st = 1 ∨ st = 2) ∧ d.geometry.stations[st] = some x ∧ position < x ∧ (d.stations[st]).state ≠ .failed := by
  have retestStation : st ≠ 0 ↔ st = 1 ∨ st = 2 := by omega
  unfold Device.retestAhead
  cases d.geometry.stations[st] with
  | none => simp
  | some x =>
    simp only [Bool.and_eq_true, decide_eq_true_eq, retestStation, Option.some.injEq, and_left_comm, exists_eq_left',
      and_comm]

theorem Device.retestPossible_iff {d : Device} {r : Pocket} {position : Nat} :
    d.retestPossible r position = true ↔
      r.attempts < 1 + bankMaxRetests d.mem r.bankOr ∧ ∃ st, d.retestAhead position st = true := by
  simp [Device.retestPossible]

/-! ## The obligation -/

/-- Settles O58: the two walks by what the search of the grade table finds, the retest test by its stations. -/
theorem graderWalksAndRetestTest : Obligations.GraderWalksAndRetestTest := by
  refine ⟨fun m b dev r hbank hdev => ⟨?guardWalk, fun g inTable inWindow first => ?graded, fun outside => ?ungraded⟩,
    fun d r b position hbank => ?retest⟩
  case guardWalk =>
    simp only [guarded_iff, find?_bankGrades_eq_some_iff, ← Bool.not_eq_true, inWidened_iff, inCore_iff, and_assoc]
    rfl
  case graded =>
    have found : (bankGrades m b).find? (inPlain m b dev) = some g := by
      simp only [find?_bankGrades_eq_some_iff, ← Bool.not_eq_true, inPlain_iff]
      exact ⟨inTable, inWindow, first⟩
    rw [finalWalk_of_grade hbank hdev found]
    refine ⟨r.place_outcome .., r.place_grade .., fun h => ?_⟩
    rw [targetOf_of_lt h]
    exact ⟨rfl, rfl⟩
  case ungraded =>
    have unfound : (bankGrades m b).find? (inPlain m b dev) = none := by
      simp only [find?_bankGrades_eq_none_iff, ← Bool.not_eq_true, inPlain_iff]
      exact outside
    rw [finalWalk_of_no_grade hbank hdev unfound]
    refine ⟨r.place_outcome .., r.place_grade .., fun _ => ?_⟩
    rw [outcomeTarget_ungraded]
    by_cases h : (readWord m (bankBase b + 0x18)).toNat < 24
    · rw [targetOf_of_lt h, if_pos h, if_pos h]
      exact ⟨rfl, rfl⟩
    · rw [targetOf_of_not_lt h, if_neg h, if_neg h]
      exact ⟨rfl, rfl⟩
  case retest =>
    rw [Device.retestPossible_iff, Pocket.bankOr_of_bank hbank]
    simp only [Device.retestAhead_iff]
    rfl

end Sys2Proof.Machine

/-! The gate law (R99, R100) is kept by every step. Every operation keeps the count of a gate, its tally plus its pending,
within its capacity, and an operation that changes the count or the capacity re-evaluates the full flag before it ends: for
that stretch the law is held but for the flag of that gate. A new bank's capacities hold the counts because its validation
has compared them (R139), and what is written between validation and their taking lies outside the banks. -/

namespace Sys2Proof.Machine

/-! ## Tables of the part -/

section Tables

variable {α β : Type} {n : Nat}

theorem getElem_set_fin (v : Vector α n) (i j : Fin n) (a : α) : (v.set i a)[j] = if i = j then a else v[j] := by
  simp [Vector.getElem_set, Fin.ext_iff]

@[simp] theorem getElem_mapVec (f : α → β) (v : Vector α n) (i : Fin n) : (mapVec f v)[i] = f v[i] := by
  simp [mapVec]

@[simp] theorem getElem_tableOf (f : Fin n → α) (i : Fin n) : (tableOf f)[i] = f i := by
  simp [tableOf]

/-- A step done for every index establishes for each what its own step establishes and the others keep. -/
theorem forEach_establishes {σ : Type} {f : Fin n → σ → σ} {R : Fin n → σ → Prop}
    (own : ∀ i s, R i (f i s)) (other : ∀ i j s, R i s → R i (f j s)) (s : σ) (i : Fin n) : R i (forEach n f s) := by
  have fold : ∀ (l : List (Fin n)) (s : σ), i ∈ l ∨ R i s → R i (l.foldl (fun s j => f j s) s) := by
    intro l
    induction l with
    | nil => intro s h; simpa using h
    | cons j l ih =>
      intro s h
      refine ih (f j s) ?_
      rcases h with h | h
      · rcases List.mem_cons.mp h with rfl | h
        · exact .inr (own i s)
        · exact .inl h
      · exact .inr (other i j s h)
  exact fold _ s (.inl (List.mem_finRange i))

end Tables

/-! ## The law of one gate -/

/-- The count of a gate, tally plus pending, against which its capacity is held (R99). -/
def Gate.count (g : Gate) : Nat := g.tally.toNat + g.windows.length

/-- What the gate law says of one gate. -/
def Gate.Lawful (g : Gate) : Prop := g.count ≤ g.capacity.toNat ∧ g.full = g.fullNow

/-- What it says of gate `i` while the flag of gate `j` waits for its re-evaluation. -/
def LawfulBut (j i : Fin 24) (g : Gate) : Prop := g.count ≤ g.capacity.toNat ∧ (i ≠ j → g.full = g.fullNow)

theorem Gate.fullNow_eq (g : Gate) :
    g.fullNow = (decide (0 < g.capacity.toNat ∧ g.capacity.toNat ≤ g.count) || g.levelFull) := by
  exact congrArg (· || g.levelFull) (Bool.decide_and _ _).symm

theorem gateLaw_iff (d : Device) : GateLaw d ↔ ∀ j : Fin 24, (d.gates[j]).Lawful := by
  unfold GateLaw
  refine forall_congr' fun j => ?_
  rw [Gate.Lawful, Gate.fullNow_eq]
  rfl

theorem Gate.Lawful.lawfulBut {g : Gate} (h : g.Lawful) (j i : Fin 24) : LawfulBut j i g := ⟨h.1, fun _ => h.2⟩

/-- A gate within its capacity meets the law once its flag is re-evaluated. -/
theorem Gate.lawful_reevaluated {g : Gate} (h : g.count ≤ g.capacity.toNat) :
    ({ g with full := g.fullNow } : Gate).Lawful := ⟨h, rfl⟩

/-- The law sees a gate through its count, its capacity and its two flags. -/
theorem Gate.Lawful.of_count_eq {g g' : Gate} (h : g.Lawful) (count : g'.count = g.count)
    (capacity : g'.capacity = g.capacity) (full : g'.full = g.full) (levelFull : g'.levelFull = g.levelFull) :
    g'.Lawful := by
  simpa only [Gate.Lawful, Gate.fullNow_eq, count, capacity, full, levelFull] using h

theorem Gate.Lawful.count_lt_of_available {g : Gate} (h : g.Lawful) (ha : g.available = true) :
    g.count < g.capacity.toNat := by
  obtain ⟨-, flag⟩ := h
  simp only [Gate.available, Bool.and_eq_true, Bool.not_eq_true', decide_eq_true_eq] at ha
  obtain ⟨⟨-, notFull⟩, positive⟩ := ha
  rw [notFull, Gate.fullNow_eq, eq_comm, Bool.or_eq_false_iff, decide_eq_false_iff_not] at flag
  exact Nat.lt_of_not_le fun reached => flag.1 ⟨positive, reached⟩

theorem Gate.lawful_reset : Gate.reset.Lawful := ⟨Nat.le_refl _, rfl⟩

/-- A confirmed window moves from pending to the tally (R111); the tally does not wrap, for the count is within a
16-bit capacity. -/
theorem Gate.count_confirmed {g : Gate} {w : Window} {rest : List Window} (hw : g.windows = w :: rest) (h : g.Lawful)
    (fire : Option GateFire) : ({ g with windows := rest, tally := g.tally + 1, fire := fire } : Gate).count = g.count := by
  have bound := h.1
  have small := g.capacity.isLt
  simp only [Gate.count, hw, List.length_cons, BitVec.toNat_add, show (1 : Word).toNat = 1 from rfl] at bound ⊢
  omega

/-- The phases of a fire or a test fire are not what the law sees. -/
theorem Gate.Lawful.stepRun {g : Gate} (h : g.Lawful) (p : Profile) (f : Profile → Run → Option Run) :
    (g.stepRun p f).Lawful := by
  unfold Gate.stepRun
  split
  · exact h
  · split
    · split
      · split
        · exact h
        · exact h
      · exact h
    · exact h

/-! ## The windows that an index event leaves (R109, R110) -/

theorem Gate.windowsKept_length_le (g : Gate) : g.windowsKept.length ≤ g.windows.length := by
  unfold Gate.windowsKept removeWindow
  split
  · exact List.length_filter_le ..
  · exact Nat.le_refl _

theorem Gate.youngKept_length_le (g : Gate) (k : DWord) :
    (youngWindows g.windowsKept k).length ≤ g.windows.length :=
  (List.length_filter_le ..).trans g.windowsKept_length_le

/-! ## A condition on every gate, over a canonical memory -/

/-- Each gate meets its condition, and the exchange memory is in canonical form. -/
def GatesMeet (R : Fin 24 → Gate → Prop) (d : Device) : Prop :=
  Memory.wf d.mem = true ∧ ∀ j : Fin 24, R j d.gates[j]

/-- The gate law over a canonical memory. -/
abbrev GatesLawful (d : Device) : Prop := GatesMeet (fun _ => Gate.Lawful) d

theorem memoryWf_complete {d : Device} (h : Memory.wf d.mem = true) (n : Fin 16) (c : ResultCode) (v : DWord) :
    Memory.wf (d.complete n c v).mem = true := (complete_reads h n c.code v).1

/-- Such a condition is not touched by the blocks other than the gates. -/
theorem quiet_gatesMeet (R : Fin 24 → Gate → Prop) : Quiet (GatesMeet R) where
  ports _ _ h := h
  heads _ _ h := h
  stations _ _ h := h
  sweep _ _ h := h
  sensor _ _ h := h
  timebase _ _ h := h
  slate _ _ h := h
  port _ _ h := h
  produce _ r h := ⟨(produce_pagesOnly h.1 r).wf, h.2⟩
  flush d h := ⟨(Writer.flush_pagesOnly (w := d.writer) h.1 _).wf, h.2⟩
  examine d h := ⟨(Writer.examine_pagesOnly (w := d.writer) h.1 _ _).wf, h.2⟩
  complete _ n c v h := ⟨memoryWf_complete h.1 n c v, h.2⟩
  markTaken _ n h := ⟨memoryWf_markTaken h.1 n, h.2⟩

theorem quiet_gatesLawful : Quiet GatesLawful := quiet_gatesMeet _

section GatesMeet

variable {R R' : Fin 24 → Gate → Prop} {d : Device}

theorem GatesMeet.mono (h : GatesMeet R d) (weaker : ∀ i g, R i g → R' i g) : GatesMeet R' d :=
  ⟨h.1, fun i => weaker i _ (h.2 i)⟩

theorem GatesMeet.updLot (h : GatesMeet R d) (f : Lot → Lot) : GatesMeet R (d.updLot f) := h

theorem GatesMeet.set (h : GatesMeet R d) (j : Fin 24) {g : Gate} (own : R' j g)
    (others : ∀ i, i ≠ j → R i d.gates[i] → R' i d.gates[i]) : GatesMeet R' { d with gates := d.gates.set j g } := by
  refine ⟨h.1, fun i => ?_⟩
  rw [getElem_set_fin]
  split
  · next hij => exact hij ▸ own
  · next hij => exact others i (Ne.symm hij) (h.2 i)

theorem GatesMeet.updGate (h : GatesMeet R d) (j : Fin 24) {f : Gate → Gate} (own : R j (f d.gates[j])) :
    GatesMeet R (d.updGate j f) := h.set j own fun _ _ hi => hi

theorem GatesMeet.mapGates (h : GatesMeet R d) {f : Gate → Gate} (each : ∀ i g, R i g → R i (f g)) :
    GatesMeet R { d with gates := mapVec f d.gates } := by
  refine ⟨h.1, fun i => ?_⟩
  rw [getElem_mapVec]
  exact each i _ (h.2 i)

/-- A completed BIN_SWAP_BEGIN leaves a condition that does not look at the swap (R115). -/
theorem GatesMeet.swapTest (h : GatesMeet R d) (blind : ∀ i g, R i g → R i { g with swap := none }) (j : Fin 24) :
    GatesMeet R (d.swapTest j) := by
  have q := quiet_gatesMeet R
  unfold Device.swapTest
  split
  · split
    · exact q.complete _ _ _ _ ((q.binEvent h j .swapBegin).updGate j (blind j _ (h.2 j)))
    · exact h
  · exact h

/-! ## The re-evaluation of a full flag (R101) -/

/-- A re-evaluation leaves each gate but for the flag of its own. -/
theorem Device.reevaluate_gates (d : Device) (j : Fin 24) :
    (d.reevaluate j).gates = d.gates.set j { d.gates[j] with full := (d.gates[j]).fullNow } := by
  unfold Device.reevaluate
  dsimp only
  split
  · next same => exact (vector_set_self d.gates j (by rw [same])).symm
  · rfl

theorem GatesMeet.reevaluate (h : GatesMeet R d) (j : Fin 24)
    (own : R' j { d.gates[j] with full := (d.gates[j]).fullNow })
    (others : ∀ i, i ≠ j → R i d.gates[i] → R' i d.gates[i]) : GatesMeet R' (d.reevaluate j) := by
  have wf : Memory.wf (d.reevaluate j).mem = true := by
    unfold Device.reevaluate
    dsimp only
    split
    · exact h.1
    · exact (produce_pagesOnly (d := d.updGate j _) h.1 _).wf
  refine ⟨wf, ?_⟩
  rw [Device.reevaluate_gates]
  exact (h.set j own others).2

/-- The flag that waited is re-evaluated, and the law holds. -/
theorem GatesMeet.reevaluate_lawful {j : Fin 24} (h : GatesMeet (LawfulBut j) d) : GatesLawful (d.reevaluate j) :=
  h.reevaluate j (Gate.lawful_reevaluated (h.2 j).1) fun _ hij hi => ⟨hi.1, hi.2 hij⟩

end GatesMeet

/-! ## The Gate Controller's operations -/

section GateOperations

variable {d : Device}

/-- A change of one gate that stays within its capacity, and leaves the flag for a re-evaluation. -/
theorem GatesMeet.updGate_lawfulBut (h : GatesLawful d) (j : Fin 24) {f : Gate → Gate}
    (own : (f d.gates[j]).count ≤ (f d.gates[j]).capacity.toNat) : GatesMeet (LawfulBut j) (d.updGate j f) :=
  (h.mono fun i _ hg => hg.lawfulBut j i).updGate j ⟨own, fun hne => absurd rfl hne⟩

theorem GatesMeet.lawful_swapTest (h : GatesLawful d) (j : Fin 24) : GatesLawful (d.swapTest j) :=
  h.swapTest (fun _ _ hg => hg) j

theorem GatesMeet.pendingLowered {j : Fin 24} (h : GatesMeet (LawfulBut j) d) : GatesLawful (d.pendingLowered j) :=
  (h.swapTest (fun _ _ hg => hg) j).reevaluate_lawful

theorem GatesMeet.stepRun (h : GatesLawful d) (o : Fin 25) (f : Profile → Run → Option Run) :
    GatesLawful (d.stepRun o f) := by
  unfold Device.stepRun
  split
  · next j _ => exact h.updGate j ((h.2 j).stepRun _ f)
  · exact h

theorem GatesMeet.cutFires (h : GatesLawful d) : GatesLawful d.cutFires := h.mapGates fun _ _ hg => hg

theorem GatesMeet.abortTest (h : GatesLawful d) (j : Fin 24) : GatesLawful (d.abortTest j) := by
  unfold Device.abortTest
  split
  · exact quiet_gatesLawful.complete _ _ _ _ (h.updGate j (h.2 j))
  · exact h

theorem GatesMeet.abortTests (h : GatesLawful d) : GatesLawful d.abortTests :=
  forEach_keeps (P := GatesLawful) (fun j _ hd => hd.abortTest j) h

theorem GatesMeet.discardWindow (h : GatesLawful d) (j : Fin 24) : GatesLawful (d.discardWindow j) := by
  unfold Device.discardWindow
  split
  · exact h
  · exact (h.updGate_lawfulBut j ((Nat.add_le_add_left (Nat.zero_le _) _).trans (h.2 j).1)).reevaluate_lawful

theorem GatesMeet.discardWindows (h : GatesLawful d) : GatesLawful d.discardWindows :=
  forEach_keeps (P := GatesLawful) (fun j _ hd => hd.discardWindow j) h

theorem GatesMeet.setLevel (h : GatesLawful d) (j : Fin 24) (full : Bool) : GatesLawful (d.setLevel j full) :=
  (h.updGate_lawfulBut j (f := fun g => { g with levelFull := full }) (h.2 j).1).reevaluate_lawful

/-- A gate treated at an index event loses windows or keeps them all; where it loses any, the flag is re-evaluated. -/
theorem GatesMeet.treatGate (h : GatesLawful d) (j : Fin 24) : GatesLawful (d.treatGate j) := by
  unfold Device.treatGate
  extract_lets g d1 d2 d3
  have records {R : Fin 24 → Gate → Prop} (h1 : GatesMeet R d1) : GatesMeet R d3 := by
    have h2 : GatesMeet R d2 := by
      unfold d2
      split
      · exact h1
      · exact h1
    exact foldl_keeps (P := GatesMeet R)
      (f := fun d (w : Window) => d.updPocket w.pocket (Pocket.ejectionFailed .ejectUnconfirmed)) (fun _ _ hd => hd) _ h2
  split
  · next same =>
    have count : Gate.count { g with fire := none, windows := youngWindows g.windowsKept d.k } = g.count :=
      congrArg (g.tally.toNat + ·) same
    exact records (h.updGate j ((h.2 j).of_count_eq count rfl rfl rfl))
  · have fewer := Nat.add_le_add_left (g.youngKept_length_le d.k) g.tally.toNat
    exact (records (h.updGate_lawfulBut j (fewer.trans (h.2 j).1))).pendingLowered

/-- A fire starts at an available gate, which has room for its window (R102, R104). -/
theorem GatesMeet.fireGate (h : GatesLawful d) (j : Fin 24) (p : Fin 96) (ha : (d.gates[j]).available = true) :
    GatesLawful (d.fireGate j p) := by
  have room := (h.2 j).count_lt_of_available ha
  unfold Device.fireGate
  extract_lets run d1
  have grown (ws : List Window) (fire : Option GateFire) (one : ws.length = 1) :
      Gate.count { d.gates[j] with windows := (d.gates[j]).windows ++ ws, fire := fire } = (d.gates[j]).count + 1 := by
    simp [Gate.count, one, Nat.add_assoc]
  have h1 : GatesMeet (LawfulBut j) d1 := h.updGate_lawfulBut j ((grown _ _ rfl).trans_le room)
  exact GatesMeet.reevaluate_lawful (d := d1.updPocket p _) h1

theorem GatesMeet.gateWork (h : GatesLawful d) (j : Fin 24) : GatesLawful (d.gateWork j) := by
  unfold Device.gateWork
  split
  · dsimp only
    split
    · unfold Device.arrive
      split
      · next ha => exact h.fireGate j _ ha
      · split
        · exact h
        · exact h
    · exact h
  · exact h

end GateOperations

/-! ## The Lot Controller's operations -/

section LotOperations

variable {d : Device}

theorem GatesMeet.haltRequest (h : GatesLawful d) (c : HaltCause) : GatesLawful (d.haltRequest c) := by
  have enter (ret : ReturnState) : GatesLawful (d.enterHalt c ret) :=
    quiet_gatesLawful.produceWith (GatesMeet.cutFires (d := d.updLot _) h) _ _
  unfold Device.haltRequest
  split
  · exact enter .running
  · exact enter .draining
  · exact h
  · exact h

theorem GatesMeet.switchTest (h : GatesLawful d) : GatesLawful d.switchTest := by
  unfold Device.switchTest
  split
  · split
    · exact quiet_gatesLawful.complete _ _ _ _ h
    · exact h
  · exact h

theorem GatesMeet.retire (h : GatesLawful d) (p : Fin 96) (c : Option (Fin 24)) : GatesLawful (d.retire p c) :=
  quiet_gatesLawful.produce d _ h

theorem GatesMeet.retireTested (h : GatesLawful d) (p : Fin 96) (c : Option (Fin 24)) :
    GatesLawful (d.retireTested p c) := (h.retire p c).switchTest

theorem GatesMeet.completeLotEnd (h : GatesLawful d) (n : Fin 16) : GatesLawful (d.completeLotEnd n) := by
  have q := quiet_gatesLawful
  have h1 := q.forgetTriggers (q.closeStations h)
  have h2 := q.flush _ (q.produceLotEnd h1 d.closeStations.forgetTriggers.totalsGrades)
  exact q.complete _ n _ _ (GatesMeet.cutFires (d := Device.updLot _ _) h2)

theorem GatesMeet.lotEndTest (h : GatesLawful d) : GatesLawful d.lotEndTest := by
  unfold Device.lotEndTest
  split
  · split
    · exact h.completeLotEnd _
    · exact h
  · exact h

theorem GatesMeet.lotEnd (h : GatesLawful d) (n : Fin 16) : GatesLawful (d.lotEnd n) := by
  unfold Device.lotEnd
  split
  · exact GatesMeet.lotEndTest (d := d.updLot _) h
  · split
    · exact h
    · exact quiet_gatesLawful.refuse h _ _ _

theorem GatesMeet.resume (h : GatesLawful d) (n : Fin 16) (b : Bool) : GatesLawful (d.resume n b) := by
  have q := quiet_gatesLawful
  unfold Device.resume
  split
  · exact q.refuse h _ _ _
  · split
    · exact q.refuse h _ _ _
    · exact (q.complete _ _ _ _ (q.produceWith (d := d.updLot _) h _ _)).lotEndTest

theorem GatesMeet.abortPocket (h : GatesLawful d) (p : Fin 96) : GatesLawful (d.abortPocket p) := by
  unfold Device.abortPocket
  split
  · exact h
  · exact GatesMeet.retire (d := d.updPocket p _) h p none

theorem GatesMeet.abortPending (h : GatesLawful d) (references : Nat) : GatesLawful (d.abortPending references) := by
  have q := quiet_gatesLawful
  unfold Device.abortPending
  extract_lets d1 d2
  have h1 : GatesLawful d1 := by
    unfold d1
    split
    · exact q.complete _ _ _ _ h
    · exact h
  have h2 : GatesLawful d2 := q.completeSome (d := d1.updLot _) h1 _ _ _
  exact forEach_keeps (P := GatesLawful) (fun j _ hd => hd.lawful_swapTest j) h2

theorem GatesMeet.lotAbort (h : GatesLawful d) (n : Fin 16) : GatesLawful (d.lotAbort n) := by
  have q := quiet_gatesLawful
  unfold Device.lotAbort
  split
  · exact q.refuse h _ _ _
  · have fires : GatesLawful d.abortFires := q.forgetTriggers h.cutFires.discardWindows
    have retired : GatesLawful (forEach 96 Device.abortPocket d.abortFires) :=
      forEach_keeps (P := GatesLawful) (fun p _ hd => hd.abortPocket p) fires
    unfold Device.abortLot
    extract_lets references cause d1 d2 d3 d4
    have h2 : GatesLawful d2 := q.closeStations (retired.abortPending references)
    have h3 : GatesLawful d3 := q.flush _ (q.produceLotAbort h2 _ _)
    exact q.complete d4 n _ _ h3

end LotOperations

/-! ## The capacities of a bank (R98, R139) -/

/-- The counts of the gates are within the capacities that the bank gives them. -/
def CapacitiesFit (b : Bank) (d : Device) : Prop :=
  GatesMeet (fun j g => g.count ≤ (bankCapacity d.mem b j).toNat) d

theorem bankCapacity_congr {m m' : Memory} (h : ∀ a, 0x0800 ≤ a → a < 0x2000 → readByte m' a = readByte m a) (b : Bank)
    (j : Fin 24) : bankCapacity m' b j = bankCapacity m b j := by
  have place : 0x0800 ≤ bankBase b + (0x020 + 2 * j.val) ∧ bankBase b + (0x020 + 2 * j.val) + 1 < 0x2000 := by
    cases b <;> simp only [bankBase] <;> omega
  unfold bankCapacity bankWord readWord
  rw [h _ place.1 (by omega), h _ (by omega) place.2]

/-- Validation of a bank compares every count with its capacity, where the capacity is 0 too (R139). -/
theorem count_le_of_validateBank {m : Memory} {b : Bank} {geometry : Geometry} {gates : Vector Gate 24}
    (h : validateBank m b geometry gates = none) (j : Fin 24) : (gates[j]).count ≤ (bankCapacity m b j).toNat := by
  simp only [validateBank, firstFailure, Option.map_eq_none_iff, List.find?_eq_none] at h
  have passed := h _ (List.mem_append_right _
    (List.mem_append_right _ (List.mem_map.mpr ⟨j, List.mem_finRange j, rfl⟩)))
  simp only [Bool.not_eq_true, Bool.not_eq_false'] at passed
  split at passed
  · exact (of_decide_eq_true passed).trans_le (Nat.zero_le _)
  · exact of_decide_eq_true passed

section Capacities

variable {b : Bank} {d : Device}

theorem capacitiesFit_of_validateBank (wf : Memory.wf d.mem = true) {geometry : Geometry}
    (h : validateBank d.mem b geometry d.gates = none) : CapacitiesFit b d := ⟨wf, count_le_of_validateBank h⟩

/-- Gates and banks that stay as they were still fit. -/
theorem CapacitiesFit.of_banks_eq (h : CapacitiesFit b d) {d' : Device} (wf : Memory.wf d'.mem = true)
    (banks : ∀ a, 0x0800 ≤ a → a < 0x2000 → readByte d'.mem a = readByte d.mem a)
    (counts : ∀ j : Fin 24, (d'.gates[j]).count = (d.gates[j]).count) : CapacitiesFit b d' := by
  refine ⟨wf, fun j => ?_⟩
  show (d'.gates[j]).count ≤ (bankCapacity d'.mem b j).toNat
  rw [counts, bankCapacity_congr banks]
  exact h.2 j

theorem CapacitiesFit.produceWith (h : CapacitiesFit b d) (e : Event) (r : Record) :
    CapacitiesFit b (d.produceWith e r) :=
  have pages := produce_pagesOnly h.1 r
  h.of_banks_eq pages.wf (fun a _ ha => pages.below a ha) fun _ => rfl

theorem CapacitiesFit.complete (h : CapacitiesFit b d) (n : Fin 16) (c : ResultCode) (v : DWord) :
    CapacitiesFit b (d.complete n c v) := by
  obtain ⟨wf, -, -, -, outside⟩ := complete_reads h.1 n c.code v
  have cell := cellBase_lt n
  exact h.of_banks_eq wf (fun a ha _ => outside a (by unfold AnswerByte; omega)) fun _ => rfl

theorem CapacitiesFit.abortTests (h : CapacitiesFit b d) : CapacitiesFit b d.abortTests := by
  refine forEach_keeps (P := CapacitiesFit b) (fun j d hd => ?_) h
  unfold Device.abortTest
  split
  · exact CapacitiesFit.complete (GatesMeet.updGate hd j (hd.2 j)) _ _ _
  · exact hd

/-- The state on which a lot opens keeps gates and memory (R26). -/
theorem CapacitiesFit.resetForLot (h : CapacitiesFit b d) (lotId first : DWord) :
    CapacitiesFit b (d.resetForLot b lotId first) := h

/-- Capacities that fit are taken, and every flag is re-evaluated (R98, R101). -/
theorem CapacitiesFit.takeCapacities (h : CapacitiesFit b d) : GatesLawful (d.takeCapacities b) := by
  unfold Device.takeCapacities
  generalize htaken : ({ d with gates := tableOf (fun j => { d.gates[j] with capacity := bankCapacity d.mem b j }) }
    : Device) = taken
  have within : GatesMeet (fun _ g => g.count ≤ g.capacity.toNat) taken := by
    subst htaken
    refine ⟨h.1, fun j => ?_⟩
    rw [getElem_tableOf]
    exact h.2 j
  have stillWithin := forEach_keeps (f := fun j (d : Device) => d.reevaluate j)
    (fun j d (hd : GatesMeet _ d) => hd.reevaluate j (hd.2 j) fun _ _ hi => hi) within
  have flags := forEach_establishes (f := fun (j : Fin 24) (d : Device) => d.reevaluate j)
    (R := fun i d => (d.gates[i]).full = (d.gates[i]).fullNow)
    (fun i d => by rw [Device.reevaluate_gates, getElem_set_fin, if_pos rfl]; rfl)
    (fun i j d hi => by
      rw [Device.reevaluate_gates, getElem_set_fin]
      split
      · rfl
      · exact hi) taken
  exact ⟨stillWithin.1, fun j => ⟨stillWithin.2 j, flags j⟩⟩

end Capacities

/-! ## LOT_START and BANK_SWITCH, which take capacities (R26, R146) -/

section TakingCommands

variable {d : Device}

theorem validateBank_of_lotStart_accepted {bank : Word} {b : Bank} (h : d.lotStartRefusal bank = none)
    (hb : bankOfCode bank = some b) : validateBank d.mem b (readGeometry d.mem) d.gates = none := by
  unfold Device.lotStartRefusal at h
  simp only [hb] at h
  split at h
  · cases h
  · split at h
    · cases h
    · split at h
      · cases h
      · assumption

theorem validateBank_of_bankSwitch_accepted {bank mode : Word} {b : Bank} (h : d.bankSwitchRefusal bank mode = none)
    (hb : bankOfCode bank = some b) : validateBank d.mem b d.geometry d.gates = none := by
  unfold Device.bankSwitchRefusal at h
  simp only [hb] at h
  split at h
  · cases h
  · cases h
  · split at h
    · cases h
    · split at h
      · cases h
      · split at h
        · cases h
        · split at h
          · cases h
          · simp_all

theorem GatesMeet.lotStart (h : GatesLawful d) (n : Fin 16) (bank : Word) (lotId first : DWord) :
    GatesLawful (d.lotStart n bank lotId first) := by
  have q := quiet_gatesLawful
  unfold Device.lotStart
  split
  · exact q.refuse h _ _ _
  · next accepted =>
    split
    · next b hb =>
      have fit := capacitiesFit_of_validateBank h.1 (validateBank_of_lotStart_accepted accepted hb)
      unfold Device.openLot
      extract_lets d1 d2
      have fit1 : CapacitiesFit b d1 := fit.abortTests.resetForLot _ _
      have fit2 : CapacitiesFit b d2 := fit1.produceWith _ _
      have opened : GatesLawful (d2.takeCapacities b).openHeads :=
        q.openHeads (fun _ c hd => hd.haltRequest c) fit2.takeCapacities
      refine q.complete _ _ _ _ ?_
      unfold Device.haltAtStart
      split
      · exact opened.haltRequest _
      · exact opened
    · exact h

theorem GatesMeet.bankSwitch (h : GatesLawful d) (n : Fin 16) (bank mode : Word) :
    GatesLawful (d.bankSwitch n bank mode) := by
  unfold Device.bankSwitch
  split
  · exact quiet_gatesLawful.refuse h _ _ _
  · next accepted =>
    split
    · next b immediate hb _ =>
      have fit := capacitiesFit_of_validateBank h.1 (validateBank_of_bankSwitch_accepted accepted hb)
      unfold Device.switchBanks
      extract_lets d1 d2 d3 pending
      have fit2 : CapacitiesFit b d2 := by
        unfold d2
        split
        · exact fit
        · exact fit
      have taken : GatesLawful d3 := fit2.takeCapacities
      exact (taken.updLot _).switchTest
    · exact h

end TakingCommands

/-! ## The commands and events of the gates -/

section GateCommands

variable {d : Device}

/-- A gate parameter out of range is refused; in range, the command's own work counts. -/
theorem GatesMeet.withGate (h : GatesLawful d) (n : Fin 16) (gate : Word) {f : Fin 24 → Device}
    (hf : ∀ j, GatesLawful (f j)) : GatesLawful (d.withGate n gate f) := by
  unfold Device.withGate
  split
  · exact hf _
  · exact quiet_gatesLawful.refuse h _ _ _

theorem GatesMeet.gateMode (h : GatesLawful d) (n : Fin 16) (gate mode : Word) :
    GatesLawful (d.gateMode n gate mode) := by
  refine h.withGate n gate fun j => ?_
  split
  · exact quiet_gatesLawful.refuse h _ _ _
  · exact quiet_gatesLawful.complete _ _ _ _ (h.updGate j (h.2 j))

theorem GatesMeet.binSwapBegin (h : GatesLawful d) (n : Fin 16) (gate : Word) : GatesLawful (d.binSwapBegin n gate) := by
  have q := quiet_gatesLawful
  refine h.withGate n gate fun j => ?_
  split
  · exact q.refuse h _ _ _
  · split
    · exact q.refuse h _ _ _
    · exact (h.updGate j (f := fun g => { g with offline := true, swap := some n }) (h.2 j)).lawful_swapTest j

/-- The tally of a gate that comes back is 0, and its flag is re-evaluated (R116). -/
theorem GatesMeet.binSwapEnd (h : GatesLawful d) (n : Fin 16) (gate : Word) : GatesLawful (d.binSwapEnd n gate) := by
  have q := quiet_gatesLawful
  refine h.withGate n gate fun j => ?_
  dsimp only
  split
  · have recorded := q.binEvent h j .swapEnd
    have fewer : Gate.count { d.gates[j] with tally := 0, offline := false } ≤ (d.gates[j]).count :=
      Nat.add_le_add_right (Nat.zero_le _) _
    exact q.complete _ _ _ _ (recorded.updGate_lawfulBut j (fewer.trans (h.2 j).1)).reevaluate_lawful
  · exact q.refuse h _ _ _

theorem GatesMeet.testFire (h : GatesLawful d) (n : Fin 16) (gate : Word) : GatesLawful (d.testFire n gate) := by
  have q := quiet_gatesLawful
  refine h.withGate n gate fun j => ?_
  dsimp only
  split
  · exact q.refuse h _ _ _
  · split
    · exact q.refuse h _ _ _
    · split
      · exact q.refuse h _ _ _
      · split
        · exact q.refuse h _ _ _
        · exact h.updGate j (h.2 j)

theorem GatesMeet.observeEnd (h : GatesLawful d) (j : Fin 24) : GatesLawful (d.observeEnd j) := by
  unfold Device.observeEnd
  split
  · split
    · exact quiet_gatesLawful.complete _ _ _ _ (h.updGate j (h.2 j))
    · exact h
  · exact h

/-- A confirmation keeps the count, so that its flag is right before its re-evaluation too. -/
theorem GatesMeet.confirmDrop (h : GatesLawful d) (j : Fin 24) {w : Window} {rest : List Window}
    (hw : (d.gates[j]).windows = w :: rest) : GatesLawful (d.confirmDrop j w rest) := by
  unfold Device.confirmDrop
  extract_lets d1 d2
  have h1 : GatesLawful d1 := h.updGate j ((h.2 j).of_count_eq (Gate.count_confirmed hw (h.2 j) _) rfl rfl rfl)
  have h2 : GatesLawful d2 := by
    unfold d2
    split
    · exact h1.retireTested _ _
    · exact h1
  exact (h2.mono fun i _ hg => hg.lawfulBut j i).pendingLowered.lotEndTest

theorem GatesMeet.dropEdge (h : GatesLawful d) (j : Fin 24) : GatesLawful (d.dropEdge j) := by
  unfold Device.dropEdge
  split
  · exact h.updGate j (h.2 j)
  · next hw => exact h.confirmDrop j hw
  · exact h.updGate j (h.2 j)

end GateCommands

/-! ## The index event -/

section IndexEvent

variable {d : Device}

theorem GatesMeet.settleDepartures (h : GatesLawful d) (phi : Nat) : GatesLawful (d.settleDepartures phi) := by
  have depart (p : Fin 96) (d : Device) (hd : GatesLawful d) : GatesLawful (d.depart phi p) := by
    unfold Device.depart
    split
    · exact hd
    · exact hd
  have strand (p : Fin 96) (d : Device) (hd : GatesLawful d) : GatesLawful (d.strand p) := by
    unfold Device.strand
    split
    · exact hd
    · exact hd
  exact forEach_keeps strand (forEach_keeps depart h)

theorem GatesMeet.treatGates (h : GatesLawful d) : GatesLawful d.treatGates :=
  forEach_keeps (P := GatesLawful) (fun j _ hd => hd.treatGate j) (s := { d with sweep := none }) h

theorem GatesMeet.startSweep (h : GatesLawful d) : GatesLawful d.startSweep := h

theorem GatesMeet.loadWork (h : GatesLawful d) (b : Bool) : GatesLawful (d.loadWork b) := by
  unfold Device.loadWork
  dsimp only
  split
  · exact h
  · exact h

theorem GatesMeet.schedule (h : GatesLawful d) (st : Fin 3) (p : Fin 96) (delay : Nat) :
    GatesLawful (d.schedule st p delay) := by
  unfold Device.schedule
  extract_lets l d1 d2 d3
  have h3 : GatesLawful d3 := by
    unfold d3
    split
    · exact h
    · exact h
  split
  · exact h
  · split
    · exact quiet_gatesLawful.sendPart h3 l
    · exact h3

theorem GatesMeet.stationWork (h : GatesLawful d) (switched : Fin 3 → Bool) (st : Fin 3) :
    GatesLawful (d.stationWork switched st) := by
  unfold Device.stationWork
  split
  · exact h
  · dsimp only
    split
    · split
      · split
        · exact h.schedule _ _ _
        · exact h
      · exact h
      · exact h
      · exact h
    · exact h

theorem GatesMeet.clearWork (h : GatesLawful d) (b : Bool) : GatesLawful (d.clearWork b) := by
  unfold Device.clearWork
  dsimp only
  split
  · split
    · exact h
    · exact h
  · split
    · exact (h.retireTested _ _).lotEndTest
    · exact h

theorem GatesMeet.clearCheck (h : GatesLawful d) (b : Bool) : GatesLawful (d.clearCheck b) := by
  unfold Device.clearCheck
  split
  · exact (h.clearWork b).haltRequest _
  · exact h.clearWork b

theorem GatesMeet.indexMoving (h : GatesLawful d) (loading loadSense clearSense : Bool) :
    GatesLawful (d.indexMoving loading loadSense clearSense) := by
  unfold Device.indexMoving
  extract_lets d1 switched d2 d3 d4 d5
  have h1 : GatesLawful d1 := GatesMeet.settleDepartures (d := d.advance) h _
  have h2 : GatesLawful d2 := (quiet_gatesLawful.selectorWork h1).treatGates
  have h3 : GatesLawful d3 := by
    unfold d3
    split
    · exact h2.loadWork _
    · exact h2
  have h4 : GatesLawful d4 := forEach_keeps (P := GatesLawful) (fun st _ hd => hd.stationWork switched st) h3
  have worked : GatesLawful (forEach 24 (fun j d => d.gateWork j) d4) :=
    forEach_keeps (P := GatesLawful) (fun j _ hd => hd.gateWork j) h4
  exact worked.startSweep.clearCheck clearSense

theorem GatesMeet.haltedSkip (h : GatesLawful d) (p : Fin 96) : GatesLawful (d.haltedSkip p) := by
  unfold Device.haltedSkip
  dsimp only
  split
  · exact h
  · split
    · exact h
    · split
      · split
        · exact h
        · exact h
      · exact h

theorem GatesMeet.indexHalted (h : GatesLawful d) (clearSense : Bool) : GatesLawful (d.indexHalted clearSense) := by
  unfold Device.indexHalted
  have treated : GatesLawful d.advance.selectorHaltedWork.treatGates :=
    (quiet_gatesLawful.selectorHaltedWork (d := d.advance) h).treatGates
  have skipped : GatesLawful (forEach 96 Device.haltedSkip d.advance.selectorHaltedWork.treatGates) :=
    forEach_keeps (P := GatesLawful) (fun p _ hd => hd.haltedSkip p) treated
  exact skipped.clearWork clearSense

theorem GatesMeet.indexEvent (h : GatesLawful d) (loadSense clearSense : Bool) :
    GatesLawful (d.indexEvent loadSense clearSense) := by
  unfold Device.indexEvent
  split
  · exact h
  · exact h.indexMoving true loadSense clearSense
  · exact h.indexMoving false loadSense clearSense
  · exact h.indexHalted clearSense

end IndexEvent

/-! ## Measurements, the exchange memory, and resets -/

theorem GatesMeet.acceptReading {d : Device} (h : GatesLawful d) (l : Fin 6) (f : HeadFrame) (t : Trigger) :
    GatesLawful (d.acceptReading l f t) := by
  unfold Device.acceptReading
  split
  · exact h
  · dsimp only
    split
    · exact h
    · exact h

theorem GatesMeet.acceptWrite {d : Device} (h : GatesLawful d) (a : Nat) (v : Word) :
    GatesLawful (d.acceptWrite a v) := by
  have written : GatesLawful { d with mem := writeWord d.mem a v } := ⟨memoryWf_writeWord h.1 a v, h.2⟩
  unfold Device.acceptWrite
  dsimp only
  split
  · exact quiet_gatesLawful.examine _ written
  · exact written

theorem GatesMeet.snapshot {d : Device} (h : GatesLawful d) : GatesLawful d.snapshot := by
  refine ⟨?_, h.2⟩
  simp only [Device.snapshot]
  exact memoryWf_writeBytes _ (memoryWf_clearRange h.1 _ _) _

theorem GatesMeet.clearCounters {d : Device} (h : GatesLawful d) : GatesLawful d.clearCounters :=
  h.mapGates fun _ _ hg => hg

theorem memoryWf_imageMemory (image : List Host.Cell) : Memory.wf (imageMemory image) = true := by
  refine foldl_keeps (P := fun m => Memory.wf m = true) (fun m c hm => ?_) image (s := []) rfl
  split
  · exact memoryWf_writeByte hm _ _
  · exact hm

/-- A gate at its reset value has nothing counted and its flag clear. -/
theorem gatesLawful_atReset (phase : Phase) {m : Memory} (h : Memory.wf m = true) :
    GatesLawful (Device.atReset phase m) := by
  refine ⟨h, fun j => ?_⟩
  have gate : (Device.atReset phase m).gates[j] = Gate.reset := Vector.getElem_replicate _
  rw [gate]
  exact Gate.lawful_reset

/-! ## The obligation -/

theorem keptByBlocks_gatesLawful : KeptByBlocks GatesLawful where
  toQuiet := quiet_gatesLawful
  halt _ c h := h.haltRequest c
  indexEvent _ a b h := h.indexEvent a b
  dropEdge _ j h := h.dropEdge j
  acceptReading _ l f t h := h.acceptReading l f t
  endDelay _ o h := h.stepRun o _
  endHit _ o h := h.stepRun o _
  carrier _ o _ h := h.stepRun o _
  endHold _ o h := h.stepRun o _
  observeEnd _ j h := h.observeEnd j
  guardForcing _ h := h.cutFires.abortTests
  setLevel _ j b h := h.setLevel j b
  lotStart _ n b i f h := h.lotStart n b i f
  lotEnd _ n h := h.lotEnd n
  lotEndTest _ h := h.lotEndTest
  lotAbort _ n h := h.lotAbort n
  resume _ n b h := h.resume n b
  bankSwitch _ n b m h := h.bankSwitch n b m
  switchTest _ h := h.switchTest
  binSwapBegin _ n g h := h.binSwapBegin n g
  swapTest _ j h := h.lawful_swapTest j
  binSwapEnd _ n g h := h.binSwapEnd n g
  gateMode _ n g m h := h.gateMode n g m
  testFire _ n g h := h.testFire n g
  snapshot _ h := h.snapshot
  clearCounters _ h := h.clearCounters
  acceptWrite _ a v h := h.acceptWrite a v
  powerOn image := gatesLawful_atReset _ (memoryWf_imageMemory image)
  reset _ h := gatesLawful_atReset _ h.1
  begin _ h := gatesLawful_atReset _ (memoryWf_filter h.1 _)
  release _ h := h

/-- Settles O4: the gate law over a canonical memory is kept block by block. -/
theorem everyStepKeepsTheGateLaw : Obligations.EveryStepKeepsTheGateLaw := by
  intro s t wf law hstep
  have lawful : GatesLawful s.dev := ⟨wf, (gateLaw_iff _).mp law⟩
  exact (gateLaw_iff _).mpr (keptByBlocks_gatesLawful.step_keeps hstep lawful).2

end Sys2Proof.Machine

/-! BIN_SWAP_BEGIN and BIN_SWAP_END (R115, R116). The records carry the tally of the part as the take found it, and the take
touches neither gates nor journal pages, so the Writer's work after the take is the work it would have done without it. -/

namespace Sys2Proof.Machine

/-! ## The Writer's work with its event -/

/-- The second Writer has one more event flag set. -/
theorem Tracks.raise {x : BitVec 7} {w w' : Writer} (t : Tracks x w w') (y : BitVec 7) :
    Tracks (x ||| y) w { w' with events := w'.events ||| y } :=
  ⟨t.journal, by show w'.events ||| y = _; rw [t.events, BitVec.or_assoc], t.wf, t.wf', t.above⟩

theorem tracks_produceWith {x : BitVec 7} {w : Writer} {d : Device} (t : Tracks x w d.writer) (e : Event) (r : Record) :
    Tracks (x ||| e.bit) (w.produce r d.k d.lot.lotId) (d.produceWith e r).writer :=
  (t.produce r d.k d.lot.lotId).raise e.bit

/-- The BIN_EVENT of a re-evaluation, where the flag changes (R101); the BIN event is already set. -/
theorem tracks_reevaluate {x : BitVec 7} {w : Writer} {d : Device} (t : Tracks x w d.writer)
    (hx : x ||| Event.bin.bit = x) (j : Fin 24) :
    Tracks x
      (if (d.gates[j]).fullNow = (d.gates[j]).full then w
        else w.produce (.binEvent j (if (d.gates[j]).fullNow then .full else .available) (d.gates[j]).tally) d.k
          d.lot.lotId)
      (d.reevaluate j).writer := by
  unfold Device.reevaluate
  dsimp only
  split
  · exact t
  · have produced := tracks_produceWith (d := d.updGate j (fun g => { g with full := (d.gates[j]).fullNow })) t .bin
      (.binEvent j (if (d.gates[j]).fullNow then .full else .available) (d.gates[j]).tally)
    rw [hx] at produced
    unfold Device.binEvent
    rw [Device.updGate_gates, getElem_set_fin, if_pos rfl]
    exact produced

theorem reevaluate_pagesOnly {d : Device} (h : Memory.wf d.mem = true) (j : Fin 24) :
    PagesOnly d.mem (d.reevaluate j).mem := by
  unfold Device.reevaluate
  dsimp only
  split
  · exact PagesOnly.refl h
  · exact produce_pagesOnly (d := d.updGate j _) h _

@[simp] theorem Device.binEvent_gates (d : Device) (j : Fin 24) (k : BinKind) : (d.binEvent j k).gates = d.gates := rfl

/-- A re-evaluation leaves all but its gate and the Writer's work. -/
theorem Device.reevaluate_frame (d : Device) (j : Fin 24) :
    d.reevaluate j = { d with
      gates := (d.reevaluate j).gates
      mem := (d.reevaluate j).mem
      journal := (d.reevaluate j).journal
      port := { d.port with events := (d.reevaluate j).port.events } } := by
  unfold Device.reevaluate
  dsimp only
  split
  · rfl
  · rfl

/-- An answer after work that set event flags: `e0` is the part before the answer. -/
theorem answered_flagged {d e e0 : Device} {n : Fin 16} {code : ResultCode} {detail : DWord} {w : Writer}
    {flags : BitVec 7} (hd : Memory.wf d.mem = true) (ht : d.slate.taken[n] = false) (track : Tracks flags w e0.writer)
    (pages : PagesOnly (d.markTaken n).mem e0.mem)
    (he : e0 = { e with
      mem := e0.mem
      journal := e0.journal
      slate := (d.markTaken n).slate
      port := { e.port with events := e0.port.events } }) :
    Answered d e (e0.complete n code detail) n code detail w flags := by
  have unflagged : Tracks 0 w { e0.writer with events := w.events } :=
    ⟨track.journal, BitVec.or_zero.symm, track.wf, track.wf', track.above⟩
  refine answered hd ht unflagged pages (he.trans ?_)
  have events : e0.port.events = w.events ||| flags := track.events
  rw [events]
  rfl

/-! ## BIN_SWAP_BEGIN (R115) -/

/-- The gate goes offline, and the command of cell `n` waits for its windows. -/
def Gate.swapBegun (n : Fin 16) (g : Gate) : Gate := { g with offline := true, swap := some n }

/-- The gate is back from its swap, its tally 0 and its flag not yet re-evaluated (R116). -/
def Gate.returned (g : Gate) : Gate := { g with tally := 0, offline := false }

theorem Gate.fullNow_returned (g : Gate) :
    g.returned.fullNow =
      (decide (0 < g.capacity.toNat ∧ g.capacity.toNat ≤ g.windows.length) || g.levelFull) := by
  have count : g.returned.count = g.windows.length := Nat.zero_add _
  rw [Gate.fullNow_eq, count]
  rfl

theorem Device.updGate_gate (d : Device) (j : Fin 24) (f : Gate → Gate) : (d.updGate j f).gates[j] = f d.gates[j] := by
  rw [Device.updGate_gates, getElem_set_fin, if_pos rfl]

/-- A swap begin in progress completes once no window is open. -/
theorem Device.swapTest_of_closed {d : Device} {j : Fin 24} {n : Fin 16} (hs : (d.gates[j]).swap = some n)
    (closed : (d.gates[j]).windows = []) :
    d.swapTest j = ((d.binEvent j .swapBegin).updGate j (fun g => { g with swap := none })).complete n .ok
      ((d.gates[j]).tally.setWidth 32) := by
  simp only [Device.swapTest, hs, Gate.pending, closed, List.length_nil, if_true]

/-- With a window open it waits. -/
theorem Device.swapTest_of_open {d : Device} {j : Fin 24} (opened : (d.gates[j]).windows ≠ []) : d.swapTest j = d := by
  have waits : (d.gates[j]).pending ≠ 0 := fun h => opened (List.length_eq_zero_iff.mp h)
  unfold Device.swapTest
  split
  · exact if_neg waits
  · rfl

section BinSwap

variable {d : Device} {n : Fin 16} {j : Fin 24}

/-- With no window open the swap begin is done at the take. -/
theorem Device.swapBegun_answered (hd : Memory.wf d.mem = true) (ht : d.slate.taken[n] = false)
    (free : (d.gates[j]).swap = none) (closed : (d.gates[j]).windows = []) :
    Answered d { d with gates := d.gates.set j { d.gates[j] with offline := true } }
      (((d.markTaken n).updGate j (Gate.swapBegun n)).swapTest j) n .ok ((d.gates[j]).tally.setWidth 32)
      (d.records (.binEvent j .swapBegin (d.gates[j]).tally)) 0x10 := by
  generalize hbegun : (d.markTaken n).updGate j (Gate.swapBegun n) = begun
  have gate : begun.gates[j] = (d.gates[j]).swapBegun n := by rw [← hbegun, Device.updGate_gate]; rfl
  have event : begun.binEvent j .swapBegin = begun.produceWith .bin (.binEvent j .swapBegin (d.gates[j]).tally) := by
    rw [Device.binEvent, gate]
    rfl
  have gates : ((begun.binEvent j .swapBegin).updGate j (fun g => { g with swap := none })).gates
      = d.gates.set j { d.gates[j] with offline := true } := by
    rw [Device.updGate_gates, Device.binEvent_gates, gate, ← hbegun, Device.updGate_gates, vector_set_set, ← free]
    rfl
  rw [Device.swapTest_of_closed (n := n) (by rw [gate]; rfl) (by rw [gate]; exact closed), gate]
  refine answered_flagged hd ht ?track ?pages ?frame
  case track =>
    have taken : Tracks 0 d.writer begun.writer := hbegun ▸ tracks_markTaken hd n
    have produced := tracks_produceWith taken .bin (.binEvent j .swapBegin (d.gates[j]).tally)
    rw [← event, ← hbegun] at produced
    rw [← hbegun]
    exact produced
  case pages =>
    have pages := produce_pagesOnly (d := begun) (hbegun ▸ memoryWf_markTaken hd n)
      (.binEvent j .swapBegin (begun.gates[j]).tally)
    rw [← hbegun] at pages ⊢
    exact pages
  case frame =>
    rw [← gates, ← hbegun]
    rfl

/-- With a window open the cell waits (R115). -/
theorem Device.swapBegun_held (hd : Memory.wf d.mem = true) (opened : (d.gates[j]).windows ≠ []) :
    HeldTaken d { d with gates := d.gates.set j ((d.gates[j]).swapBegun n) }
      (((d.markTaken n).updGate j (Gate.swapBegun n)).swapTest j) n d.writer 0 := by
  rw [Device.swapTest_of_open (by rw [Device.updGate_gate]; exact opened)]
  refine heldTaken hd (tracks_markTaken hd n) (PagesOnly.refl (memoryWf_markTaken hd n)) ?_
  simp [Device.updGate]

/-! ## BIN_SWAP_END (R116) -/

/-- The gate comes back at once, its records in the order of the rule. -/
theorem Device.returned_answered (hd : Memory.wf d.mem = true) (ht : d.slate.taken[n] = false) :
    Answered d
      { d with gates := d.gates.set j { (d.gates[j]).returned with full := (d.gates[j]).returned.fullNow } }
      (((((d.markTaken n).binEvent j .swapEnd).updGate j Gate.returned).reevaluate j).complete n .ok
        ((d.gates[j]).tally.setWidth 32)) n .ok ((d.gates[j]).tally.setWidth 32)
      (if (d.gates[j]).returned.fullNow = (d.gates[j]).full then d.records (.binEvent j .swapEnd (d.gates[j]).tally)
        else (d.records (.binEvent j .swapEnd (d.gates[j]).tally)).produce
          (.binEvent j (if (d.gates[j]).returned.fullNow then .full else .available) 0) d.k d.lot.lotId) 0x10 := by
  have produced := tracks_produceWith (d := d.markTaken n) (tracks_markTaken hd n) .bin
    (.binEvent j .swapEnd (d.gates[j]).tally)
  have pages := produce_pagesOnly (d := d.markTaken n) (memoryWf_markTaken hd n)
    (.binEvent j .swapEnd (d.gates[j]).tally)
  generalize hback : ((d.markTaken n).binEvent j .swapEnd).updGate j Gate.returned = back
  have gate : back.gates[j] = (d.gates[j]).returned := by rw [← hback, Device.updGate_gate]; rfl
  have gates : (back.reevaluate j).gates
      = d.gates.set j { (d.gates[j]).returned with full := (d.gates[j]).returned.fullNow } := by
    rw [Device.reevaluate_gates, gate, ← hback, Device.updGate_gates, vector_set_set]
    rfl
  refine answered_flagged hd ht ?track ?pages ?frame
  case track =>
    have track : Tracks 0x10 (d.records (.binEvent j .swapEnd (d.gates[j]).tally)) back.writer := hback ▸ produced
    have flagged := tracks_reevaluate track rfl j
    rw [gate] at flagged
    rw [show d.k = back.k from hback ▸ rfl, show d.lot = back.lot from hback ▸ rfl]
    exact flagged
  case pages =>
    have backPages : PagesOnly (d.markTaken n).mem back.mem := hback ▸ pages
    exact backPages.trans (reevaluate_pagesOnly backPages.wf j)
  case frame =>
    rw [Device.reevaluate_frame, gates, ← hback]
    rfl

end BinSwap

/-! ## The obligation -/

/-- BIN_SWAP_BEGIN runs on the part in which its cell is TAKEN. -/
theorem exec_binSwapBegin {s : State} {n : Fin 16} (h : Takes s n) (gate : Word) :
    exec (.binSwapBegin n gate) s = .next { s with dev := (s.dev.markTaken n).binSwapBegin n gate } :=
  State.event_take h _

/-- BIN_SWAP_END runs on the part in which its cell is TAKEN. -/
theorem exec_binSwapEnd {s : State} {n : Fin 16} (h : Takes s n) (gate : Word) :
    exec (.binSwapEnd n gate) s = .next { s with dev := (s.dev.markTaken n).binSwapEnd n gate } :=
  State.event_take h _

theorem Device.withGate_of_lt (d : Device) (n : Fin 16) {gate : Word} (h : gate.toNat < 24) (f : Fin 24 → Device) :
    d.withGate n gate f = f ⟨gate.toNat, h⟩ := by
  rw [Device.withGate, indexOf_of_lt h]

theorem Device.withGate_of_not_lt (d : Device) (n : Fin 16) {gate : Word} (h : ¬ gate.toNat < 24)
    (f : Fin 24 → Device) : d.withGate n gate f = d.refuse n .refusedInvalid 0 := by
  rw [Device.withGate, indexOf_of_not_lt h]
  rfl

section Cases

variable {d : Device} {n : Fin 16} {gate : Word} (hg : gate.toNat < 24)

theorem Device.binSwapBegin_busy {holder : Fin 16} (hs : (d.gates[(⟨gate.toNat, hg⟩ : Fin 24)]).swap = some holder) :
    d.binSwapBegin n gate = d.refuse n .refusedBusy (BitVec.ofNat 32 holder.val) := by
  rw [Device.binSwapBegin, Device.withGate_of_lt d n hg, hs]

theorem Device.binSwapBegin_offline (hs : (d.gates[(⟨gate.toNat, hg⟩ : Fin 24)]).swap = none)
    (off : (d.gates[(⟨gate.toNat, hg⟩ : Fin 24)]).offline = true) :
    d.binSwapBegin n gate = d.refuse n .refusedState 0 := by
  simp only [Device.binSwapBegin, Device.withGate_of_lt d n hg, hs, off, if_true]

theorem Device.binSwapBegin_accepted (hs : (d.gates[(⟨gate.toNat, hg⟩ : Fin 24)]).swap = none)
    (on : ¬ (d.gates[(⟨gate.toNat, hg⟩ : Fin 24)]).offline = true) :
    d.binSwapBegin n gate = (d.updGate ⟨gate.toNat, hg⟩ (Gate.swapBegun n)).swapTest ⟨gate.toNat, hg⟩ := by
  simp only [Device.binSwapBegin, Device.withGate_of_lt d n hg, hs, if_neg on]
  rfl

theorem Device.binSwapEnd_accepted (out : (d.gates[(⟨gate.toNat, hg⟩ : Fin 24)]).offline = true
      ∧ (d.gates[(⟨gate.toNat, hg⟩ : Fin 24)]).swap = none) :
    d.binSwapEnd n gate =
      (((d.binEvent ⟨gate.toNat, hg⟩ .swapEnd).updGate ⟨gate.toNat, hg⟩ Gate.returned).reevaluate
        ⟨gate.toNat, hg⟩).complete n .ok ((d.gates[(⟨gate.toNat, hg⟩ : Fin 24)]).tally.setWidth 32) := by
  simp only [Device.binSwapEnd, Device.withGate_of_lt d n hg, Option.isNone_iff_eq_none, if_pos out]
  rfl

theorem Device.binSwapEnd_refused (out : ¬ ((d.gates[(⟨gate.toNat, hg⟩ : Fin 24)]).offline = true
      ∧ (d.gates[(⟨gate.toNat, hg⟩ : Fin 24)]).swap = none)) :
    d.binSwapEnd n gate = d.refuse n .refusedState 0 := by
  simp only [Device.binSwapEnd, Device.withGate_of_lt d n hg, Option.isNone_iff_eq_none, if_neg out]

end Cases

/-- Settles O18: each command by the cases of its rule, no such gate first. -/
theorem binSwapsTakeAndReturnTheGate : Obligations.BinSwapsTakeAndReturnTheGate := by
  refine ⟨fun s n gate h => ?begin, fun s n gate h => ?ends⟩
  case begin =>
    have ⟨_, ht, hd⟩ := h
    refine ⟨_, exec_binSwapBegin h gate, ?_⟩
    by_cases hg : gate.toNat < 24
    case neg =>
      rw [dif_neg hg, Device.binSwapBegin, Device.withGate_of_not_lt _ n hg]
      exact answered_refuse hd ht _ _
    rw [dif_pos hg]
    dsimp only
    split
    next holder busy =>
      rw [Device.binSwapBegin_busy (d := s.dev.markTaken n) hg busy]
      exact answered_refuse hd ht _ _
    next free =>
      split
      next off =>
        rw [Device.binSwapBegin_offline (d := s.dev.markTaken n) hg free off]
        exact answered_refuse hd ht _ _
      next on =>
        rw [Device.binSwapBegin_accepted (d := s.dev.markTaken n) hg free on]
        split
        next closed => exact Device.swapBegun_answered hd ht free closed
        next opened => exact Device.swapBegun_held hd opened
  case ends =>
    have ⟨_, ht, hd⟩ := h
    refine ⟨_, exec_binSwapEnd h gate, ?_⟩
    by_cases hg : gate.toNat < 24
    case neg =>
      rw [dif_neg hg, Device.binSwapEnd, Device.withGate_of_not_lt _ n hg]
      exact answered_refuse hd ht _ _
    rw [dif_pos hg]
    dsimp only
    by_cases out : (s.dev.gates[(⟨gate.toNat, hg⟩ : Fin 24)]).offline = true
        ∧ (s.dev.gates[(⟨gate.toNat, hg⟩ : Fin 24)]).swap = none
    case pos =>
      rw [if_pos out, Device.binSwapEnd_accepted (d := s.dev.markTaken n) hg out]
      have answer := Device.returned_answered (j := ⟨gate.toNat, hg⟩) hd ht
      rw [Gate.fullNow_returned] at answer
      exact answer
    case neg =>
      rw [if_neg out, Device.binSwapEnd_refused (d := s.dev.markTaken n) hg out]
      exact answered_refuse hd ht _ _

end Sys2Proof.Machine

/-! JOURNAL_FLUSH and TALLY_SNAPSHOT (R170, R172). Both rewrite a region of exchange memory, a page or the snapshot area:
the region is cleared and a run of bytes written from its start. What stands at a field of the region is then read off
the run, and the answer of the cell, which lies elsewhere, leaves it standing. -/

namespace Sys2Proof.Machine

/-! ## Runs of bytes -/

/-- The run of bytes stands in the memory from address `a` up. -/
def BytesAt (m : Memory) (a : Nat) (bs : List Byte) : Prop := ∀ i, i < bs.length → readByte m (a + i) = bs.getD i 0

theorem bytesAt_writeBytes {m : Memory} (h : Memory.wf m = true) (a : Nat) (bs : List Byte) :
    BytesAt (writeBytes m a bs) a bs := by
  intro i hi
  rw [readByte_writeBytes bs h, if_pos (by omega), Nat.add_sub_cancel_left]

/-- A run stands in every memory that reads alike from address `b` on, where the run lies above `b`. -/
theorem BytesAt.congr {m m' : Memory} {a b : Nat} {bs : List Byte} (h : BytesAt m a bs) (hb : b ≤ a)
    (alike : ∀ x, b ≤ x → readByte m' x = readByte m x) : BytesAt m' a bs :=
  fun i hi => (alike (a + i) (by omega)).trans (h i hi)

theorem bytesAt_append {m : Memory} {a : Nat} {xs ys : List Byte} :
    BytesAt m a (xs ++ ys) ↔ BytesAt m a xs ∧ BytesAt m (a + xs.length) ys := by
  constructor
  · refine fun h => ⟨fun i hi => ?_, fun i hi => ?_⟩
    · rw [h i (by rw [List.length_append]; omega), List.getD_append _ _ _ _ hi]
    · rw [Nat.add_assoc, h (xs.length + i) (by rw [List.length_append]; omega),
        List.getD_append_right _ _ _ _ (by omega), Nat.add_sub_cancel_left]
  · rintro ⟨hx, hy⟩ i hi
    rw [List.length_append] at hi
    by_cases inside : i < xs.length
    · rw [hx i inside, List.getD_append _ _ _ _ inside]
    · rw [List.getD_append_right _ _ _ _ (by omega), ← hy (i - xs.length) (by omega)]
      congr 1
      omega

theorem BytesAt.readWord {m : Memory} {a : Nat} {w : Word} (h : BytesAt m a (wordBytes w)) :
    Machine.readWord m a = w := by
  have low : Machine.readByte m a = loByte w := h 0 (Nat.zero_lt_succ _)
  have high : Machine.readByte m (a + 1) = hiByte w := h 1 (Nat.lt_succ_self _)
  rw [Machine.readWord, low, high, loByte_append_hiByte]

theorem BytesAt.readDWord {m : Memory} {a : Nat} {v : DWord} (h : BytesAt m a (dwordBytes v)) :
    Machine.readDWord m a = v := by
  obtain ⟨low, high⟩ := bytesAt_append.mp h
  rw [Machine.readDWord, low.readWord, BytesAt.readWord (a := a + 2) high, hiWord_append_loWord]

@[simp] theorem length_wordBytes (w : Word) : (wordBytes w).length = 2 := rfl

@[simp] theorem length_dwordBytes (v : DWord) : (dwordBytes v).length = 4 := rfl

theorem length_flatMap_of_length_eq {α : Type} {f : α → List Byte} {k : Nat} (hf : ∀ x, (f x).length = k) (l : List α) :
    (l.flatMap f).length = k * l.length := by
  simp [List.length_flatMap, hf, Nat.mul_comm]

/-- In a run made of pieces of one length, each piece stands at its multiple of that length. -/
theorem BytesAt.flatMap {α : Type} {f : α → List Byte} {k : Nat} (hf : ∀ x, (f x).length = k) {m : Memory} :
    ∀ {l : List α} {a : Nat}, BytesAt m a (l.flatMap f) → ∀ i (hi : i < l.length), BytesAt m (a + k * i) (f l[i]) := by
  intro l
  induction l with
  | nil => intro a _ i hi; exact absurd hi (Nat.not_lt_zero i)
  | cons x l ih =>
    intro a h i hi
    rw [List.flatMap_cons] at h
    obtain ⟨first, rest⟩ := bytesAt_append.mp h
    rw [hf] at rest
    cases i with
    | zero => exact first
    | succ i =>
      have piece := ih rest i (Nat.lt_of_succ_lt_succ hi)
      rw [show a + k * (i + 1) = a + k + k * i by rw [Nat.mul_succ]; omega]
      exact piece

/-! ## Words of memories that read alike -/

theorem readWord_of_alike {m m' : Memory} {a : Nat} (h0 : readByte m' a = readByte m a)
    (h1 : readByte m' (a + 1) = readByte m (a + 1)) : readWord m' a = readWord m a := by
  rw [readWord, readWord, h0, h1]

/-! ## A region cleared and written from its start -/

/-- The bytes from `lo` up to `hi` become the run, followed by 0. -/
def rewriteRegion (m : Memory) (lo hi : Nat) (bs : List Byte) : Memory := writeBytes (clearRange m lo hi) lo bs

section Region

variable {m : Memory} {lo hi : Nat} {bs : List Byte}

theorem memoryWf_rewriteRegion (h : Memory.wf m = true) : Memory.wf (rewriteRegion m lo hi bs) = true :=
  memoryWf_writeBytes bs (memoryWf_clearRange h lo hi) lo

theorem bytesAt_rewriteRegion (h : Memory.wf m = true) : BytesAt (rewriteRegion m lo hi bs) lo bs :=
  bytesAt_writeBytes (memoryWf_clearRange h lo hi) lo bs

theorem readByte_rewriteRegion_rest (h : Memory.wf m = true) {a : Nat} (rest : lo + bs.length ≤ a) (ha : a < hi) :
    readByte (rewriteRegion m lo hi bs) a = 0 := by
  rw [rewriteRegion, readByte_writeBytes_outside (memoryWf_clearRange h lo hi) (.inr rest), readByte_clearRange,
    if_pos (by omega)]

theorem readByte_rewriteRegion_outside (h : Memory.wf m = true) (fits : lo + bs.length ≤ hi) {a : Nat}
    (outside : a < lo ∨ hi ≤ a) : readByte (rewriteRegion m lo hi bs) a = readByte m a := by
  rw [rewriteRegion, readByte_writeBytes_outside (memoryWf_clearRange h lo hi) (by omega), readByte_clearRange,
    if_neg (by omega)]

end Region

/-! ## JOURNAL_FLUSH: the page opened, the page closed (R178, R180, R181) -/

/-- The named bytes of a page header as the page opens: FILLING, no record yet, page sequence, the sequence of its first
record, lot id (R178, R189). -/
def pageHeader (sequence firstRecord lotId : DWord) : List Byte :=
  wordBytes 1 ++ (wordBytes 0 ++ (dwordBytes sequence ++ (dwordBytes firstRecord ++ dwordBytes lotId)))

@[simp] theorem length_pageHeader (sequence firstRecord lotId : DWord) :
    (pageHeader sequence firstRecord lotId).length = 16 := rfl

/-- An opening is the page rewritten with its header. -/
theorem Writer.openPage_mem (w : Writer) (n : Fin 80) (lotId : DWord) :
    (w.openPage n lotId).mem =
      rewriteRegion w.mem (pageBase n) (pageBase n + 0x200)
        (pageHeader w.journal.nextPage w.journal.nextRecord lotId) := rfl

theorem BytesAt.pageHeader {m : Memory} {a : Nat} {sequence firstRecord lotId : DWord}
    (h : BytesAt m a (Machine.pageHeader sequence firstRecord lotId)) :
    Machine.readWord m a = 1 ∧ Machine.readWord m (a + 2) = 0 ∧ Machine.readDWord m (a + 4) = sequence
      ∧ Machine.readDWord m (a + 8) = firstRecord ∧ Machine.readDWord m (a + 0xC) = lotId := by
  obtain ⟨state, h⟩ := bytesAt_append.mp h
  obtain ⟨count, h⟩ := bytesAt_append.mp h
  obtain ⟨page, h⟩ := bytesAt_append.mp h
  obtain ⟨first, lot⟩ := bytesAt_append.mp h
  exact ⟨state.readWord, count.readWord, page.readDWord, first.readDWord, lot.readDWord⟩

/-- Two neighbouring pages have no byte in common, page 79 and page 0 among them. -/
theorem pageBase_succ_apart (n : Fin 80) :
    pageBase n + 512 ≤ pageBase (n + 1) ∨ pageBase (n + 1) + 512 ≤ pageBase n := by
  unfold pageBase
  have next : (n + 1).val = (n.val + 1) % 80 := Fin.val_add n 1
  omega

/-- The Writer with its page marked FULL and the JOURNAL event set, before it looks for the next page (R180). -/
def Writer.marked (w : Writer) : Writer where
  journal := { w.journal with isOpen := false }
  mem := writeWord w.mem (pageBase w.journal.page) 2
  events := w.events ||| Event.journal.bit

theorem Writer.closePage_eq (w : Writer) (lotId : DWord) :
    w.closePage lotId = w.marked.lookFor (w.journal.page + 1) lotId := rfl

section Close

variable {w : Writer} (hw : Memory.wf w.mem = true)
include hw

theorem Writer.memoryWf_marked : Memory.wf w.marked.mem = true := memoryWf_writeWord hw _ _

/-- Of the memory, only the state word of the page changes. -/
theorem Writer.readByte_marked {a : Nat} (ha : a < pageBase w.journal.page ∨ pageBase w.journal.page + 2 ≤ a) :
    readByte w.marked.mem a = readByte w.mem a := readByte_writeWord_outside hw ha

theorem Writer.readWord_marked_page : readWord w.marked.mem (pageBase w.journal.page) = 2 := readWord_writeWord hw _ _

theorem Writer.pageState_marked_next :
    pageState w.marked.mem (w.journal.page + 1) = readWord w.mem (pageBase (w.journal.page + 1)) := by
  have apart := pageBase_succ_apart w.journal.page
  exact readWord_writeWord_outside hw (by omega)

theorem Writer.closePage_of_free (free : readWord w.mem (pageBase (w.journal.page + 1)) = 0) (lotId : DWord) :
    w.closePage lotId = w.marked.openPage (w.journal.page + 1) lotId := by
  rw [Writer.closePage_eq, Writer.lookFor, Writer.pageState_marked_next hw, if_pos free]

theorem Writer.closePage_of_not_free (held : readWord w.mem (pageBase (w.journal.page + 1)) ≠ 0) (lotId : DWord) :
    w.closePage lotId = w.marked.enterStall (w.journal.page + 1) := by
  rw [Writer.closePage_eq, Writer.lookFor, Writer.pageState_marked_next hw, if_neg held]

/-- Whatever becomes of the next page, elsewhere the memory is the one with the page marked. -/
theorem Writer.readByte_closePage (lotId : DWord) {a : Nat}
    (ha : a < pageBase (w.journal.page + 1) ∨ pageBase (w.journal.page + 1) + 512 ≤ a) :
    readByte (w.closePage lotId).mem a = readByte w.marked.mem a := by
  by_cases free : readWord w.mem (pageBase (w.journal.page + 1)) = 0
  · rw [Writer.closePage_of_free hw free, Writer.openPage_mem]
    exact readByte_rewriteRegion_outside (Writer.memoryWf_marked hw)
      (by rw [length_pageHeader]; omega) ha
  · rw [Writer.closePage_of_not_free hw free]
    rfl

/-- The page closed is FULL and holds its records as they were. -/
theorem Writer.closePage_closed (lotId : DWord) :
    readWord (w.closePage lotId).mem (pageBase w.journal.page) = 2
      ∧ ∀ i, i < 512 → 2 ≤ i →
        readByte (w.closePage lotId).mem (pageBase w.journal.page + i)
          = readByte w.mem (pageBase w.journal.page + i) := by
  have apart := pageBase_succ_apart w.journal.page
  have kept : ∀ i, i < 512 → readByte (w.closePage lotId).mem (pageBase w.journal.page + i)
      = readByte w.marked.mem (pageBase w.journal.page + i) :=
    fun i hi => Writer.readByte_closePage hw lotId (by omega)
  refine ⟨?state, fun i hi low => (kept i hi).trans (Writer.readByte_marked hw (by omega))⟩
  case state =>
    exact (readWord_of_alike (kept 0 (by decide)) (kept 1 (by decide))).trans <| Writer.readWord_marked_page hw

theorem Writer.closePage_events (lotId : DWord) : (w.closePage lotId).events = w.events ||| 0x01 := by
  by_cases free : readWord w.mem (pageBase (w.journal.page + 1)) = 0
  · rw [Writer.closePage_of_free hw free]
    rfl
  · rw [Writer.closePage_of_not_free hw free]
    show w.events ||| 0x01 ||| 0x01 = w.events ||| 0x01
    rw [BitVec.or_assoc, BitVec.or_self]

end Close

/-! ## JOURNAL_FLUSH: the answer (R170, R183) -/

/-- JOURNAL_FLUSH runs on the part in which its cell is TAKEN. -/
theorem exec_journalFlush {s : State} {n : Fin 16} (h : Takes s n) :
    exec (.journalFlush n) s = .next { s with dev := (s.dev.markTaken n).journalFlush n } := State.event_take h _

/-- The take leaves the count that a flush reports: the cells lie below the pages. -/
theorem flushCount_markTaken {d : Device} (hd : Memory.wf d.mem = true) (n : Fin 16) :
    (d.markTaken n).writer.flushCount = d.writer.flushCount := by
  have page := pageBase_ge d.journal.page
  have count := (tracks_markTaken hd n).readWord (a := pageBase d.journal.page + 2) (by omega)
  unfold Writer.flushCount pageCount
  rw [Device.writer_journal, Device.markTaken_journal, count]
  rfl

/-- The flush is answered with the count of the page it closes. -/
theorem Device.journalFlush_answered {d : Device} {n : Fin 16} (hd : Memory.wf d.mem = true)
    (ht : d.slate.taken[n] = false) :
    Answered d d ((d.markTaken n).journalFlush n) n .ok (BitVec.ofNat 32 d.writer.flushCount)
      (d.writer.flush d.lot.lotId) 0 := by
  rw [← flushCount_markTaken hd n]
  refine answered hd ht ((tracks_markTaken hd n).flush d.lot.lotId)
    (Writer.flush_pagesOnly (w := (d.markTaken n).writer) (memoryWf_markTaken hd n) d.lot.lotId) ?_
  have events : ((d.markTaken n).writer.flush d.lot.lotId).events ||| (0 : BitVec 7)
      = ((d.markTaken n).writer.flush d.lot.lotId).events := BitVec.or_zero
  rw [events]
  rfl

theorem Answered.writtenBy {d e t : Device} {n : Fin 16} {code : ResultCode} {detail : DWord} {w : Writer}
    {flags : BitVec 7} (h : Answered d e t n code detail w flags) : WrittenBy t w := by
  obtain ⟨frame, -, -, -, -, pages⟩ := h
  exact ⟨by rw [frame], pages⟩

theorem Answered.events {d e t : Device} {n : Fin 16} {code : ResultCode} {detail : DWord} {w : Writer}
    {flags : BitVec 7} (h : Answered d e t n code detail w flags) :
    t.port.events = w.events ||| flags ||| Event.slate.bit := by
  rw [h.1]

section Closed

variable {w : Writer} {t : Device} {lotId : DWord} (hw : Memory.wf w.mem = true)
  (written : WrittenBy t (w.closePage lotId))
include hw written

/-- What the part shows of the page that the Writer closed. -/
theorem WrittenBy.closed_page :
    readWord t.mem (pageBase w.journal.page) = 2
      ∧ ∀ i, i < 512 → 2 ≤ i →
        readByte t.mem (pageBase w.journal.page + i) = readByte w.mem (pageBase w.journal.page + i) := by
  obtain ⟨-, pages⟩ := written
  obtain ⟨full, records⟩ := Writer.closePage_closed hw lotId
  have low := pageBase_ge w.journal.page
  refine ⟨?_, fun i hi h2 => (pages _ (by omega)).trans (records i hi h2)⟩
  rw [readWord_of_alike (pages _ low) (pages _ (by omega)), full]

/-- The next page is opened where it is FREE (R178). -/
theorem WrittenBy.opened_next (free : readWord w.mem (pageBase (w.journal.page + 1)) = 0) :
    t.journal = { w.journal with page := w.journal.page + 1, isOpen := true, nextPage := w.journal.nextPage + 1 }
      ∧ BytesAt t.mem (pageBase (w.journal.page + 1)) (pageHeader w.journal.nextPage w.journal.nextRecord lotId)
      ∧ ∀ i, i < 512 → 16 ≤ i → readByte t.mem (pageBase (w.journal.page + 1) + i) = 0 := by
  obtain ⟨journal, pages⟩ := written
  rw [Writer.closePage_of_free hw free] at journal pages
  rw [Writer.openPage_mem] at pages
  have low := pageBase_ge (w.journal.page + 1)
  have marked := Writer.memoryWf_marked hw
  refine ⟨journal, (bytesAt_rewriteRegion marked).congr low pages, fun i hi h16 => (pages _ (by omega)).trans ?_⟩
  exact readByte_rewriteRegion_rest marked (by rw [length_pageHeader]; omega) (by omega)

/-- It is waited for where it is not, and keeps its bytes (R181). -/
theorem WrittenBy.awaits_next (held : readWord w.mem (pageBase (w.journal.page + 1)) ≠ 0) :
    t.journal = { w.journal with page := w.journal.page + 1, isOpen := false, stalled := true, withheld := 0 }
      ∧ ∀ i, i < 512 → readByte t.mem (pageBase (w.journal.page + 1) + i)
        = readByte w.mem (pageBase (w.journal.page + 1) + i) := by
  obtain ⟨journal, pages⟩ := written
  rw [Writer.closePage_of_not_free hw held] at journal pages
  have low := pageBase_ge (w.journal.page + 1)
  have apart := pageBase_succ_apart w.journal.page
  exact ⟨journal, fun i hi => (pages _ (by omega)).trans (Writer.readByte_marked hw (by omega))⟩

end Closed

/-- Settles O23: the flush closes a page with records, and the next page is opened or waited for; otherwise the Writer's
work is none. -/
theorem journalFlushClosesThePage : Obligations.JournalFlushClosesThePage := by
  intro s n h
  have ⟨_, ht, hd⟩ := h
  refine ⟨_, exec_journalFlush h, ?_⟩
  have answer := Device.journalFlush_answered hd ht
  dsimp only
  split
  next closes =>
    obtain ⟨isOpen, records⟩ := closes
    have count : s.dev.writer.flushCount = (readWord s.dev.mem (pageBase s.dev.journal.page + 2)).toNat :=
      if_pos isOpen
    have flush : s.dev.writer.flush s.dev.lot.lotId = s.dev.writer.closePage s.dev.lot.lotId :=
      if_neg (by rw [count]; exact records)
    rw [flush, count] at answer
    have events := answer.events
    rw [Writer.closePage_events (w := s.dev.writer) hd] at events
    obtain ⟨full, kept⟩ := answer.writtenBy.closed_page hd
    refine ⟨answer, full, kept, events.trans (by simp [BitVec.or_assoc, Event.bit]), ?_⟩
    split
    next free =>
      obtain ⟨journal, header, rest⟩ := answer.writtenBy.opened_next hd free
      obtain ⟨state, noRecord, sequence, firstRecord, lotId⟩ := header.pageHeader
      exact ⟨journal, state, noRecord, sequence, firstRecord, lotId, rest⟩
    next held => exact answer.writtenBy.awaits_next hd held
  next idle =>
    have count : s.dev.writer.flushCount = 0 := by
      by_cases isOpen : s.dev.journal.isOpen = true
      · exact (if_pos isOpen).trans (not_not.mp fun records => idle ⟨isOpen, records⟩)
      · exact if_neg isOpen
    have flush : s.dev.writer.flush s.dev.lot.lotId = s.dev.writer := if_pos count
    rw [flush, count] at answer
    exact answer

/-! ## TALLY_SNAPSHOT: the area (R172, R191) -/

/-- TALLY_SNAPSHOT runs on the part in which its cell is TAKEN. -/
theorem exec_tallySnapshot {s : State} {n : Fin 16} (h : Takes s n) :
    exec (.tallySnapshot n) s = .next { s with dev := (s.dev.markTaken n).tallySnapshot n } := State.event_take h _

@[simp] theorem length_snapshotGate (g : Gate) : (snapshotGate g).length = 8 := rfl

theorem length_snapshotBytes (d : Device) (sequence : DWord) : (snapshotBytes d sequence).length = 416 := by
  simp [snapshotBytes, length_flatMap_of_length_eq length_snapshotGate, length_flatMap_of_length_eq length_dwordBytes]

/-- The next sequence is one more, and the greatest one stays. -/
theorem Device.nextSnapshot_markTaken {d : Device} (hd : Memory.wf d.mem = true) (n : Fin 16) :
    (d.markTaken n).nextSnapshot =
      if readDWord d.mem 0x0600 = 0xFFFFFFFF then readDWord d.mem 0x0600 else readDWord d.mem 0x0600 + 1 := by
  have cell := cellBase_lt n
  have kept : readDWord (d.markTaken n).mem snapshotBase = readDWord d.mem 0x0600 :=
    readDWord_writeWord_outside hd (.inr (by unfold snapshotBase; omega))
  rw [Device.nextSnapshot, kept]
  rfl

/-- The fields of the snapshot area before its tables. -/
theorem BytesAt.snapshot_header {m : Memory} {d : Device} {sequence : DWord}
    (h : BytesAt m 0x0600 (snapshotBytes d sequence)) :
    Machine.readDWord m 0x0600 = sequence ∧ Machine.readWord m 0x0604 = BitVec.ofNat 16 d.lot.state.code
      ∧ Machine.readWord m 0x0606 = BitVec.ofNat 16 (bankCode d.lot.active) ∧ Machine.readDWord m 0x0608 = d.lot.lotId
      ∧ Machine.readDWord m 0x060C = d.lot.nextSerial ∧ Machine.readDWord m 0x0610 = d.k
      ∧ Machine.readDWord m 0x0614 = d.journal.nextRecord := by
  simp only [snapshotBytes, bytesAt_append, List.length_append, length_wordBytes, length_dwordBytes] at h
  obtain ⟨⟨⟨⟨⟨⟨⟨⟨⟨sequence, state⟩, bank⟩, lotId⟩, serial⟩, k⟩, record⟩, -⟩, -⟩, -⟩ := h
  exact ⟨sequence.readDWord, state.readWord, bank.readWord, lotId.readDWord, serial.readDWord, k.readDWord,
    record.readDWord⟩

/-- The tables of the snapshot area: eight bytes a gate from 0x0620, four bytes a counter from 0x06E0. -/
theorem BytesAt.snapshot_tables {m : Memory} {d : Device} {sequence : DWord}
    (h : BytesAt m 0x0600 (snapshotBytes d sequence)) :
    (∀ j : Fin 24, BytesAt m (0x0620 + 8 * j.val) (snapshotGate d.gates[j]))
      ∧ ∀ i : Fin 48, BytesAt m (0x06E0 + 4 * i.val) (dwordBytes d.lot.counters[i]) := by
  simp only [snapshotBytes, bytesAt_append, List.length_append, length_wordBytes, length_dwordBytes,
    List.length_replicate, length_flatMap_of_length_eq length_snapshotGate, Vector.length_toList] at h
  obtain ⟨⟨-, gates⟩, counters⟩ := h
  refine ⟨fun j => ?gate, fun i => ?counter⟩
  case gate => simpa using gates.flatMap length_snapshotGate j.val (by simp)
  case counter => simpa using counters.flatMap length_dwordBytes i.val (by simp)

/-- The flags of a gate, bit by bit (R191). -/
theorem Gate.flagBits_eq (g : Gate) :
    g.flagBits = (if g.mode = .disabled then 1 else 0) + (if g.offline then 2 else 0) + (if g.full then 4 else 0)
      + (if g.levelFull then 8 else 0) + (if g.swap.isSome then 16 else 0) := by
  simp [Gate.flagBits, bitIf]

/-- The fields of a gate in the snapshot area. -/
theorem BytesAt.snapshotGate {m : Memory} {a : Nat} {g : Gate} (h : BytesAt m a (Machine.snapshotGate g)) :
    Machine.readWord m a = g.tally ∧ Machine.readWord m (a + 2) = g.capacity
      ∧ Machine.readByte m (a + 4) = BitVec.ofNat 8 g.windows.length
      ∧ Machine.readByte m (a + 5) = BitVec.ofNat 8 g.flagBits := by
  obtain ⟨words, bytes⟩ := bytesAt_append.mp h
  obtain ⟨tally, capacity⟩ := bytesAt_append.mp words
  exact ⟨tally.readWord, capacity.readWord, bytes 0 (Nat.zero_lt_succ _),
    bytes 1 (Nat.succ_lt_succ (Nat.zero_lt_succ _))⟩

/-! ## TALLY_SNAPSHOT: the answer (R172) -/

section Snapshot

variable {d : Device} {n : Fin 16}

/-- An answer at a take that changed the memory alone: beside it the cursor moves and SLATE is set. -/
theorem Device.complete_withMem_frame (ht : d.slate.taken[n] = false) (m : Memory) (code : ResultCode)
    (detail : DWord) :
    ({ d.markTaken n with mem := m } : Device).complete n code detail = { d with
      mem := (({ d.markTaken n with mem := m } : Device).complete n code detail).mem
      slate := { d.slate with cursor := n }
      port := { d.port with events := d.port.events ||| 0x02 } } := by
  unfold Device.complete Device.markTaken
  simp only [vector_set_set, vector_set_self _ _ ht]
  rfl

/-- The snapshot shows no field that the take changes. -/
theorem snapshotBytes_markTaken (d : Device) (n : Fin 16) (sequence : DWord) :
    snapshotBytes (d.markTaken n) sequence = snapshotBytes d sequence := by
  simp only [snapshotBytes, Device.markTaken_lot, Device.markTaken_k, Device.markTaken_journal, Device.markTaken_gates]

/-- The memory that a TALLY_SNAPSHOT answers over: the area stands as the part was before the take, and elsewhere only
the take has written. -/
theorem Device.tallySnapshot_spec (hd : Memory.wf d.mem = true) :
    ∃ m, (d.markTaken n).tallySnapshot n
        = ({ d.markTaken n with mem := m } : Device).complete n .ok (d.markTaken n).nextSnapshot
      ∧ Memory.wf m = true ∧ BytesAt m 0x0600 (snapshotBytes d (d.markTaken n).nextSnapshot)
      ∧ ∀ a, ¬ (0x0600 ≤ a ∧ a < 0x0800) → readByte m a = readByte (d.markTaken n).mem a := by
  have taken := memoryWf_markTaken hd n
  have bytes := snapshotBytes_markTaken d n (d.markTaken n).nextSnapshot
  refine ⟨rewriteRegion (d.markTaken n).mem 0x0600 0x0800 (snapshotBytes d (d.markTaken n).nextSnapshot), ?answer,
    memoryWf_rewriteRegion taken, bytesAt_rewriteRegion taken,
    fun a ha => readByte_rewriteRegion_outside taken (by rw [length_snapshotBytes]; decide) (by omega)⟩
  case answer => rw [Device.tallySnapshot, Device.snapshot, bytes, rewriteRegion, snapshotBase]

end Snapshot

/-- Settles O24: the answer, the bytes it leaves, and the area field by field. -/
theorem tallySnapshotCopiesTheCounts : Obligations.TallySnapshotCopiesTheCounts := by
  intro s n h
  have ⟨_, ht, hd⟩ := h
  refine ⟨_, exec_tallySnapshot h, ?_⟩
  obtain ⟨m, completes, wf, area, outside⟩ := Device.tallySnapshot_spec (n := n) hd
  rw [Device.nextSnapshot_markTaken hd] at completes area
  rw [completes]
  dsimp only
  generalize (if readDWord s.dev.mem 0x0600 = 0xFFFFFFFF then readDWord s.dev.mem 0x0600
    else readDWord s.dev.mem 0x0600 + 1) = sequence at area ⊢
  obtain ⟨-, owner, result, detail, kept⟩ := complete_reads wf n ResultCode.ok.code sequence
  have cell := cellBase_lt n
  have shown := area.congr (b := 0x0600) (le_refl _) (fun x hx => kept x (by unfold AnswerByte; omega))
  obtain ⟨header, state, bank, lotId, serial, k, record⟩ := shown.snapshot_header
  obtain ⟨gates, counters⟩ := shown.snapshot_tables
  refine ⟨Device.complete_withMem_frame ht m .ok sequence, owner, result, detail, fun a answer elsewhere => ?frame,
    header, state, bank, lotId, serial, k, record, fun j => ?gate, fun i => (counters i).readDWord⟩
  case frame =>
    refine (kept a answer).trans ((outside a elsewhere).trans (readByte_writeWord_outside hd ?_))
    unfold AnswerByte at answer
    omega
  case gate =>
    obtain ⟨tally, capacity, pending, flags⟩ := (gates j).snapshotGate
    rw [Gate.flagBits_eq] at flags
    simp only [Nat.add_right_comm _ (8 * j.val)] at capacity pending flags
    exact ⟨tally, capacity, pending, flags⟩

end Sys2Proof.Machine
